-- ==== Sys2Proof/Word.lean ====
section
/-! DEFINITION. The two word widths of the BosTek8042 family (spec/00_scope.md R8): bytes of memory and halves of
registers are 8 bits, registers, addresses and the program counter are 16 bits. -/
namespace Sys2Proof

/-- One byte: a memory cell, the accumulator, an 8-bit register (R8). -/
abbrev Byte := BitVec 8

/-- One 16-bit value: a register pair, an address, `pc`, `SP`, raw float bits (R8). -/
abbrev Word := BitVec 16

end Sys2Proof
end

