-- ==== Sys2Proof/Config.lean ====
section
/-! DEFINITION. The parameters of the model (spec/00_scope.md R9) and its uninterpreted functions
(spec/45_float.md R431). A `Config` is plain data; the state carries one, no step changes it, and a claim that does not
name its values holds for all of them. DESIGN CHOICE, safe (notes/assumptions/1.md). -/
namespace Sys2Proof

/-- `VARIANT` (R2): the four members of the family, each holding all the earlier ones have. -/
inductive Variant where
  | v8042
  | v8842
  | v80142
  | v80143
deriving DecidableEq, Repr

/-- The place of a variant in the chain 8042 ⊂ 8842 ⊂ 80142 ⊂ 80143 (R2). -/
def Variant.rank : Variant → Nat
  | .v8042 => 0
  | .v8842 => 1
  | .v80142 => 2
  | .v80143 => 3

/-- The variant has what `first` introduced (R2: each member has everything the previous one has). -/
def Variant.has (v first : Variant) : Bool :=
  decide (first.rank ≤ v.rank)

/-- `BYTE_ORDER` (R84): the order of the two bytes of every word, in memory and in an instruction. -/
inductive ByteOrder where
  | big
  | little
deriving DecidableEq, Repr

/-- `TRA8_HIGH` (R342): the upper half of a 16-bit register written from an 8-bit one. -/
inductive Tra8High where
  | sign
  | zero
  | keep
deriving DecidableEq, Repr

/-- `REL_BASE` (R281): the address a relative displacement is added to. -/
inductive RelBase where
  | own
  | next
deriving DecidableEq, Repr

/-- What `MEM_MAP` says an address holds (R9, R82, R83). -/
inductive MemKind where
  | ram
  | rom
  | absent
  | device
deriving DecidableEq, Repr

/-- One range of `MEM_MAP`: the addresses `first` to `last`, both included. The map is a function of the address in
R9; a list of ranges is that function as plain data. DESIGN CHOICE, safe (notes/assumptions/8.md). -/
structure Region where
  first : Word
  last : Word
  kind : MemKind
deriving DecidableEq, Repr

/-- `FLOAT.xfer_in` and `FLOAT.xfer_out` (R431, R441): the default is the identity; a platform may convert instead,
and then nothing is known of the conversion (`Config.xferInFn`, `Config.xferOutFn`). -/
inductive Xfer where
  | identity
  | convert
deriving DecidableEq, Repr

/-- The result of `FLOAT.fcmp` (R431). -/
inductive FloatOrder where
  | lt
  | eq
  | gt
  | unordered
deriving DecidableEq, Repr, Inhabited

/-- What the platform offers at one instruction boundary (R496, R497): an external non-maskable request, a maskable
one, both or neither. -/
structure Offer where
  /-- A request of kind EXT_NMI is offered. -/
  nmi : Bool
  /-- A request of kind EXT_IRQ is offered. -/
  irq : Bool
deriving DecidableEq, Repr, Inhabited

/-- Nothing is offered. -/
def Offer.quiet : Offer := ⟨false, false⟩

/-- The parameters of R9 that are plain data. `EXT_EVENTS` is the state's stream of offers, `FLOAT` the opaque functions
below, `FLAG_RULES` is Machine/Flags.lean, written as R45 writes it (DEDUCED, unsafe: notes/assumptions/20.md). -/
structure Config where
  /-- `VARIANT` (R2). -/
  variant : Variant
  /-- `BYTE_ORDER` (R84). -/
  byteOrder : ByteOrder
  /-- `RESET_PC` (R50): OPEN, and a launch without it is refused. -/
  resetPc : Option Word
  /-- `RESET_SP` (R50): a platform's value, or none supplied. -/
  resetSp : Option Word
  /-- `VEC_IRQ` (R500), or not supplied. -/
  vecIrq : Option Word
  /-- `VEC_NMI` (R500), or not supplied. -/
  vecNmi : Option Word
  /-- `VEC_TRP` (R500), or not supplied. -/
  vecTrp : Option Word
  /-- `MEM_MAP` (R95): the first range that holds an address says its kind; an address in no range is ram. -/
  memMap : List Region
  /-- `TRA8_HIGH` (R342, R443). -/
  tra8High : Tra8High
  /-- `ROTATE_THROUGH_CARRY` (R182, R183, R362, R363). -/
  rotateThroughCarry : Bool
  /-- `REL_BASE` (R281). -/
  relBase : RelBase
  /-- `JMM_INDIRECT` (R285, R311). -/
  jmmIndirect : Bool
  /-- `DIV_SIGNED` (R396). -/
  divSigned : Bool
  /-- `FLOAT.xfer_in` (R441, R443). -/
  xferIn : Xfer
  /-- `FLOAT.xfer_out` (R442, R444). -/
  xferOut : Xfer
  /-- `ENC_TPC` (R146). -/
  encTpc : Option Byte
  /-- `ENC_EXF` (R146). -/
  encExf : Option Byte
  /-- `ENC_STMM` (R146). -/
  encStmm : Option Byte
  /-- `ENC_LDMM` (R146). -/
  encLdmm : Option Byte
  /-- `ENC_TRK` (R146). -/
  encTrk : Option Byte
  /-- `ENC_TFK` (R146). -/
  encTfk : Option Byte
  /-- `ENC_SWFK` (R146). -/
  encSwfk : Option Byte
deriving DecidableEq, Repr

/-- The platform of the worked examples (spec/95_test_vectors.md, conventions of section 2): every parameter that has
a default at its default; the vectors and the stack pointer the examples use; `RESET_PC` 0, where programs P1 to P5
start; the variant that has every instruction. `VARIANT`, `RESET_PC` and the vectors have NO default in R9: naming them
here is a DESIGN CHOICE, unsafe (notes/assumptions/2.md). -/
def Config.reference : Config where
  variant := .v80143
  byteOrder := .big
  resetPc := some 0x0000#16
  resetSp := some 0x8000#16
  vecIrq := some 0x0040#16
  vecNmi := some 0x0050#16
  vecTrp := some 0x0060#16
  memMap := []
  tra8High := .sign
  rotateThroughCarry := false
  relBase := .own
  jmmIndirect := false
  divSigned := false
  xferIn := .identity
  xferOut := .identity
  encTpc := none
  encExf := none
  encStmm := none
  encLdmm := none
  encTrk := none
  encTfk := none
  encSwfk := none

/-- What a byte of memory reads as when neither the image nor a store has set it. R50 leaves it unspecified and
forbids zero; the model names 0x5A, an opcode byte that selects no instruction (R140), so that running into memory
nobody loaded is the fault of R143. DESIGN CHOICE, unsafe (notes/assumptions/4.md). -/
def Config.unloadedByte : Byte := 0x5A#8

/-- What each byte of a register without a stated reset value holds after reset. DESIGN CHOICE, unsafe
(notes/assumptions/3.md). -/
def Config.resetByte : Byte := 0x5A#8

/-- The word made of two `resetByte`s (notes/assumptions/3.md). -/
def Config.resetWord : Word := 0x5A5A#16

/-! `FLOAT` (R431): total, pure functions on 16-bit patterns of which nothing is known. They have no body: no proof can
use a value of one, so a claim holds for every record. DESIGN CHOICE, safe (notes/assumptions/10.md). -/

/-- `FLOAT.fadd`: `f1+f2`. -/
opaque Config.fadd : Word → Word → Word
/-- `FLOAT.fsub`: `f1-f2`. -/
opaque Config.fsub : Word → Word → Word
/-- `FLOAT.fmul`: `f1 * f2`. -/
opaque Config.fmul : Word → Word → Word
/-- `FLOAT.fdiv`: `f1/f2`. -/
opaque Config.fdiv : Word → Word → Word
/-- `FLOAT.fmod`: `f1%f2`. -/
opaque Config.fmod : Word → Word → Word
/-- `FLOAT.fpow`: `f1 ^ f2`. -/
opaque Config.fpow : Word → Word → Word
/-- `FLOAT.finv`: `1.0/f`. -/
opaque Config.finv : Word → Word
/-- `FLOAT.fsqrt`: `sqrt(f)`. -/
opaque Config.fsqrt : Word → Word
/-- `FLOAT.firt`: `1.0/sqrt(f)`, not required to be `finv` of `fsqrt` (R475). -/
opaque Config.firt : Word → Word
/-- `FLOAT.fsin`: `sin(f)`. -/
opaque Config.fsin : Word → Word
/-- `FLOAT.fcos`: `cos(f)`. -/
opaque Config.fcos : Word → Word
/-- `FLOAT.ftan`: `tan(f)`. -/
opaque Config.ftan : Word → Word
/-- `FLOAT.fabs`: `abs(f)`. -/
opaque Config.fabs : Word → Word
/-- `FLOAT.fneg`: `-f`. -/
opaque Config.fneg : Word → Word
/-- `FLOAT.fcmp`. -/
opaque Config.fcmp : Word → Word → FloatOrder
/-- `FLOAT.xfer_in` where it is not the identity. -/
opaque Config.xferInFn : Word → Word
/-- `FLOAT.xfer_out` where it is not the identity. -/
opaque Config.xferOutFn : Word → Word

/-- `EXT_EVENTS` (R497) as the oracle asked at every boundary, by the boundary's index. It has no body, so a claim about
a machine that asks it holds for every infinite stream: the platform's draw of spec/93_implementation_defined.md row 24.
DESIGN CHOICE, safe (notes/assumptions/9.md). -/
opaque Config.extEvents : Nat → Offer

end Sys2Proof
end

