-- ==== Sys2Proof/Syntax.lean ====
section
/-! DEFINITION. The instructions of the family: one constructor per row of spec/opcode_table.json, in the table's order
(spec/30_encoding.md R131 and R146), named after the table's mnemonic. Operands are already the registers and constants
they name: codes are read in Decode.lean only. -/
namespace Sys2Proof

/-- 8-bit operands, in the order of their codes 0 to 7 (R120): `A H L B C D E M`. `m` is the byte at HL (R40). -/
inductive Reg8 where
  | a
  | h
  | l
  | b
  | c
  | d
  | e
  | m
deriving DecidableEq, Repr

/-- 16-bit registers, in the order of their codes 0 to 7 (R122). R0 is HL, R1 is BC, R2 is DE (R36, R37). -/
inductive Reg16 where
  | r0
  | r1
  | r2
  | r3
  | r4
  | r5
  | r6
  | r7
deriving DecidableEq, Repr

/-- Float registers, in the order of their codes 0 to 3 (R123). -/
inductive FReg where
  | f0
  | f1
  | f2
  | f3
deriving DecidableEq, Repr

/-- Flags, in the order of their codes 0 to 7 (R121): `S Z V I T P H C`. -/
inductive FlagName where
  | s
  | z
  | v
  | i
  | t
  | p
  | h
  | c
deriving DecidableEq, Repr

/-- The instruction set. `rd` is the first operand (the r1 nibble of format 16RR), `rs` the second, `r` the one register
of formats 16R, 16RK, 16F and 16FK, `k` the constant (R110 to R119). -/
inductive Instr where
  /-- NOP, `NOP`, 0x00, R316. -/
  | nop
  /-- HLT, `HLT`, 0x01, R317. -/
  | hlt
  /-- SFI, `SFI`, 0x02, R220. -/
  | sfi
  /-- CFI, `CFI`, 0x03, R221. -/
  | cfi
  /-- SFT, `SFT`, 0x04, R222. -/
  | sft
  /-- CFT, `CFT`, 0x05, R223. -/
  | cft
  /-- EXR, `EXR`, 0x08, R420. -/
  | exr
  /-- SWH, `SWP H`, 0x09, R224. -/
  | swh
  /-- SWL, `SWP L`, 0x0A, R224. -/
  | swl
  /-- SWB, `SWP B`, 0x0B, R224. -/
  | swb
  /-- SWC, `SWP C`, 0x0C, R224. -/
  | swc
  /-- SWD, `SWP D`, 0x0D, R224. -/
  | swd
  /-- SWE, `SWP E`, 0x0E, R224. -/
  | swe
  /-- SWM, `SWP M`, 0x0F, R224. -/
  | swm
  /-- LDA, `LDM K`, 0x10, R230. -/
  | lda (k : Word)
  /-- STA, `STM K`, 0x18, R231. -/
  | sta (k : Word)
  /-- TRI, `TRA k`, 0x20, R225. -/
  | tri (k : Byte)
  /-- THA, `TRA H`, 0x21, R226. -/
  | tha
  /-- TLA, `TRA L`, 0x22, R226. -/
  | tla
  /-- TBA, `TRA B`, 0x23, R226. -/
  | tba
  /-- TCA, `TRA C`, 0x24, R226. -/
  | tca
  /-- TDA, `TRA D`, 0x25, R226. -/
  | tda
  /-- TEA, `TRA E`, 0x26, R226. -/
  | tea
  /-- TMA, `TRA M`, 0x27, R226. -/
  | tma
  /-- TAH, `TAH`, 0x29, R227. -/
  | tah
  /-- TAL, `TAL`, 0x2A, R227. -/
  | tal
  /-- TAB, `TAB`, 0x2B, R227. -/
  | tab
  /-- TAC, `TAC`, 0x2C, R227. -/
  | tac
  /-- TAD, `TAD`, 0x2D, R227. -/
  | tad
  /-- TAE, `TAE`, 0x2E, R227. -/
  | tae
  /-- TAM, `TAM`, 0x2F, R227. -/
  | tam
  /-- PLA, `PUL A`, 0x30, R228. -/
  | pla
  /-- PLH, `PUL H`, 0x31, R228. -/
  | plh
  /-- PLL, `PUL L`, 0x32, R228. -/
  | pll
  /-- PLB, `PUL B`, 0x33, R228. -/
  | plb
  /-- PLC, `PUL C`, 0x34, R228. -/
  | plc
  /-- PLD, `PUL D`, 0x35, R228. -/
  | pld
  /-- PLE, `PUL E`, 0x36, R228. -/
  | ple
  /-- PLM, `PUL M`, 0x37, R228. -/
  | plm
  /-- PHA, `PSH A`, 0x38, R229. -/
  | pha
  /-- PHH, `PSH H`, 0x39, R229. -/
  | phh
  /-- PHL, `PSH L`, 0x3A, R229. -/
  | phl
  /-- PHB, `PSH B`, 0x3B, R229. -/
  | phb
  /-- PHC, `PSH C`, 0x3C, R229. -/
  | phc
  /-- PHD, `PSH D`, 0x3D, R229. -/
  | phd
  /-- PHE, `PSH E`, 0x3E, R229. -/
  | phe
  /-- PHM, `PSH M`, 0x3F, R229. -/
  | phm
  /-- LrK, `LDM r,K`, 0x40, R370. -/
  | lrK (r : Reg16) (k : Word)
  /-- SrK, `STM K,r`, 0x41, R371. -/
  | srK (r : Reg16) (k : Word)
  /-- PSH.r, `PSH r`, 0x42, R366. -/
  | pshR (r : Reg16)
  /-- PUL.r, `PUL r`, 0x43, R367. -/
  | pulR (r : Reg16)
  /-- LFK, `LDM f,K`, 0x44, R460. -/
  | lfk (r : FReg) (k : Word)
  /-- SFK, `STM f,K`, 0x45, R461. -/
  | sfk (r : FReg) (k : Word)
  /-- PSH.f, `PSH f`, 0x46, R471. -/
  | pshF (r : FReg)
  /-- PUL.f, `PUL f`, 0x47, R472. -/
  | pulF (r : FReg)
  /-- TRR, `TRA d,s`, 0x48, R341. -/
  | tRR (rd : Reg16) (rs : Reg16)
  /-- TrR, `TRA d,R`, 0x49, R342. -/
  | trR (rd : Reg16) (rs : Reg8)
  /-- TRr, `TRA R,d`, 0x4A, R343. -/
  | tRr (rd : Reg8) (rs : Reg16)
  /-- TFF, `TRA f,f`, 0x4B, R440. -/
  | tFF (rd : FReg) (rs : FReg)
  /-- TRF, `TRA f,r`, 0x4C, R441. -/
  | tRF (rd : FReg) (rs : Reg16)
  /-- TFR, `TRA r,f`, 0x4D, R442. -/
  | tFR (rd : Reg16) (rs : FReg)
  /-- TrF, `TRA f,R`, 0x4E, R443. -/
  | trF (rd : FReg) (rs : Reg8)
  /-- TFr, `TRA R,f`, 0x4F, R444. -/
  | tFr (rd : Reg8) (rs : FReg)
  /-- SWP.rr, `SWP r,r`, 0x50, R368. -/
  | swpRr (rd : Reg16) (rs : Reg16)
  /-- SWP.ff, `SWP f,f`, 0x51, R452. -/
  | swpFf (rd : FReg) (rs : FReg)
  /-- JSC, `JSC K`, 0x60, R282. -/
  | jsc (k : Word)
  /-- JZC, `JZC K`, 0x61, R282. -/
  | jzc (k : Word)
  /-- JVC, `JVC K`, 0x62, R282. -/
  | jvc (k : Word)
  /-- JIC, `JIC K`, 0x63, R282. -/
  | jic (k : Word)
  /-- JTC, `JTC K`, 0x64, R282. -/
  | jtc (k : Word)
  /-- JPC, `JPC K`, 0x65, R282. -/
  | jpc (k : Word)
  /-- JHC, `JHC K`, 0x66, R282. -/
  | jhc (k : Word)
  /-- JCC, `JCC K`, 0x67, R282. -/
  | jcc (k : Word)
  /-- JSS, `JSS K`, 0x68, R283. -/
  | jss (k : Word)
  /-- JZS, `JZS K`, 0x69, R283. -/
  | jzs (k : Word)
  /-- JVS, `JVS K`, 0x6A, R283. -/
  | jvs (k : Word)
  /-- JIS, `JIS K`, 0x6B, R283. -/
  | jis (k : Word)
  /-- JTS, `JTS K`, 0x6C, R283. -/
  | jts (k : Word)
  /-- JPS, `JPS K`, 0x6D, R283. -/
  | jps (k : Word)
  /-- JHS, `JHS K`, 0x6E, R283. -/
  | jhs (k : Word)
  /-- JCS, `JCS K`, 0x6F, R283. -/
  | jcs (k : Word)
  /-- JMP, `JMP K`, 0x70, R284. -/
  | jmp (k : Word)
  /-- JMM, `JMP M`, 0x71, R285. -/
  | jmm
  /-- JNE, `JNE K`, 0x72, R286. -/
  | jne (k : Word)
  /-- JEQ, `JEQ K`, 0x73, R287. -/
  | jeq (k : Word)
  /-- JLT, `JLT K`, 0x74, R288. -/
  | jlt (k : Word)
  /-- JLE, `JLE K`, 0x75, R289. -/
  | jle (k : Word)
  /-- JGT, `JGT K`, 0x76, R290. -/
  | jgt (k : Word)
  /-- JGE, `JGE K`, 0x77, R291. -/
  | jge (k : Word)
  /-- JSR, `JSR K`, 0x78, R310. -/
  | jsr (k : Word)
  /-- JSM, `JSR M`, 0x79, R311. -/
  | jsm
  /-- RET, `RET`, 0x7B, R312. -/
  | ret
  /-- RFI, `RFI`, 0x7C, R314. -/
  | rfi
  /-- IRQ, `IRQ`, 0x7D, R318. -/
  | irq
  /-- NMI, `NMI`, 0x7E, R319. -/
  | nmi
  /-- WFI, `WFI`, 0x7F, R320. -/
  | wfi
  /-- ADI, `ADD k`, 0x80, R160. -/
  | adi (k : Byte)
  /-- ADH, `ADD H`, 0x81, R161. -/
  | adh
  /-- ADL, `ADD L`, 0x82, R161. -/
  | adl
  /-- ADB, `ADD B`, 0x83, R161. -/
  | adb
  /-- ADC, `ADD C`, 0x84, R161. -/
  | adc
  /-- ADD, `ADD D`, 0x85, R161. -/
  | add
  /-- ADE, `ADD E`, 0x86, R161. -/
  | ade
  /-- ADM, `ADD M`, 0x87, R161. -/
  | adm
  /-- ACI, `ADC k`, 0x88, R162. -/
  | aci (k : Byte)
  /-- ACH, `ADC H`, 0x89, R163. -/
  | ach
  /-- ACL, `ADC L`, 0x8A, R163. -/
  | acl
  /-- ACB, `ADC B`, 0x8B, R163. -/
  | acb
  /-- ACC, `ADC C`, 0x8C, R163. -/
  | acc
  /-- ACD, `ADC D`, 0x8D, R163. -/
  | acd
  /-- ACE, `ADC E`, 0x8E, R163. -/
  | ace
  /-- ACM, `ADC M`, 0x8F, R163. -/
  | acm
  /-- SUI, `SUB k`, 0x90, R164. -/
  | sui (k : Byte)
  /-- SUH, `SUB H`, 0x91, R165. -/
  | suh
  /-- SUL, `SUB L`, 0x92, R165. -/
  | sul
  /-- SUB, `SUB B`, 0x93, R165. -/
  | sub
  /-- SUC, `SUB C`, 0x94, R165. -/
  | suc
  /-- SUD, `SUB D`, 0x95, R165. -/
  | sud
  /-- SUE, `SUB E`, 0x96, R165. -/
  | sue
  /-- SUM, `SUB M`, 0x97, R165. -/
  | sum
  /-- SCI, `SBC k`, 0x98, R166. -/
  | sci (k : Byte)
  /-- SCH, `SBC H`, 0x99, R167. -/
  | sch
  /-- SCL, `SBC L`, 0x9A, R167. -/
  | scl
  /-- SCB, `SBC B`, 0x9B, R167. -/
  | scb
  /-- SCC, `SBC C`, 0x9C, R167. -/
  | scc
  /-- SCD, `SBC D`, 0x9D, R167. -/
  | scd
  /-- SCE, `SBC E`, 0x9E, R167. -/
  | sce
  /-- SCM, `SBC M`, 0x9F, R167. -/
  | scm
  /-- CPI, `CMP k`, 0xA0, R169. -/
  | cpi (k : Byte)
  /-- CPH, `CMP H`, 0xA1, R170. -/
  | cph
  /-- CPL, `CMP L`, 0xA2, R170. -/
  | cpl
  /-- CPB, `CMP B`, 0xA3, R170. -/
  | cpb
  /-- CPC, `CMP C`, 0xA4, R170. -/
  | cpc
  /-- CPD, `CMP D`, 0xA5, R170. -/
  | cpd
  /-- CPE, `CMP E`, 0xA6, R170. -/
  | cpe
  /-- CPM, `CMP M`, 0xA7, R170. -/
  | cpm
  /-- ANI, `AND k`, 0xA8, R171. -/
  | ani (k : Byte)
  /-- ANH, `AND H`, 0xA9, R172. -/
  | anh
  /-- ANL, `AND L`, 0xAA, R172. -/
  | anl
  /-- ANB, `AND B`, 0xAB, R172. -/
  | anb
  /-- ANC, `AND C`, 0xAC, R172. -/
  | anc
  /-- AND, `AND D`, 0xAD, R172. -/
  | and
  /-- ANE, `AND E`, 0xAE, R172. -/
  | ane
  /-- ANM, `AND M`, 0xAF, R172. -/
  | anm
  /-- ORI, `ORR k`, 0xB0, R173. -/
  | ori (k : Byte)
  /-- ORH, `ORR H`, 0xB1, R174. -/
  | orh
  /-- ORL, `ORR L`, 0xB2, R174. -/
  | orl
  /-- ORB, `ORR B`, 0xB3, R174. -/
  | orb
  /-- ORC, `ORR C`, 0xB4, R174. -/
  | orc
  /-- ORD, `ORR D`, 0xB5, R174. -/
  | ord
  /-- ORE, `ORR E`, 0xB6, R174. -/
  | ore
  /-- ORM, `ORR M`, 0xB7, R174. -/
  | orm
  /-- XRI, `XOR k`, 0xB8, R175. -/
  | xri (k : Byte)
  /-- XRH, `XOR H`, 0xB9, R176. -/
  | xrh
  /-- XRL, `XOR L`, 0xBA, R176. -/
  | xrl
  /-- XRB, `XOR B`, 0xBB, R176. -/
  | xrb
  /-- XRC, `XOR C`, 0xBC, R176. -/
  | xrc
  /-- XRD, `XOR D`, 0xBD, R176. -/
  | xrd
  /-- XRE, `XOR E`, 0xBE, R176. -/
  | xre
  /-- XRM, `XOR M`, 0xBF, R176. -/
  | xrm
  /-- ASL, `ASL`, 0xC0, R180. -/
  | asl
  /-- ASR, `ASR`, 0xC1, R181. -/
  | asr
  /-- ROL, `ROL`, 0xC2, R182. -/
  | rol
  /-- ROR, `ROR`, 0xC3, R183. -/
  | ror
  /-- COM, `COM`, 0xC4, R184. -/
  | com
  /-- NEG, `NEG`, 0xC5, R185. -/
  | neg
  /-- ADD.rr, `ADD d,r`, 0xC8, R345. -/
  | addRr (rd : Reg16) (rs : Reg16)
  /-- ADC.rr, `ADC d,r`, 0xC9, R346. -/
  | adcRr (rd : Reg16) (rs : Reg16)
  /-- SUB.rr, `SUB d,r`, 0xCA, R347. -/
  | subRr (rd : Reg16) (rs : Reg16)
  /-- SBC.rr, `SBC d,r`, 0xCB, R348. -/
  | sbcRr (rd : Reg16) (rs : Reg16)
  /-- CMP.rr, `CMP d,r`, 0xCC, R349. -/
  | cmpRr (rd : Reg16) (rs : Reg16)
  /-- AND.rr, `AND d,r`, 0xCD, R350. -/
  | andRr (rd : Reg16) (rs : Reg16)
  /-- ORR.rr, `ORR d,r`, 0xCE, R351. -/
  | orrRr (rd : Reg16) (rs : Reg16)
  /-- XOR.rr, `XOR d,r`, 0xCF, R352. -/
  | xorRr (rd : Reg16) (rs : Reg16)
  /-- ASL.r, `ASL r`, 0xD0, R360. -/
  | aslR (r : Reg16)
  /-- ASR.r, `ASR r`, 0xD1, R361. -/
  | asrR (r : Reg16)
  /-- ROL.r, `ROL r`, 0xD2, R362. -/
  | rolR (r : Reg16)
  /-- ROR.r, `ROR r`, 0xD3, R363. -/
  | rorR (r : Reg16)
  /-- COM.r, `COM r`, 0xD4, R364. -/
  | comR (r : Reg16)
  /-- NEG.r, `NEG r`, 0xD5, R365. -/
  | negR (r : Reg16)
  /-- ADD.rk, `ADD d,K`, 0xD8, R380. -/
  | addRk (r : Reg16) (k : Word)
  /-- ADC.rk, `ADC d,K`, 0xD9, R381. -/
  | adcRk (r : Reg16) (k : Word)
  /-- SUB.rk, `SUB d,K`, 0xDA, R382. -/
  | subRk (r : Reg16) (k : Word)
  /-- SBC.rk, `SBC d,K`, 0xDB, R383. -/
  | sbcRk (r : Reg16) (k : Word)
  /-- CMP.rk, `CMP d,K`, 0xDC, R384. -/
  | cmpRk (r : Reg16) (k : Word)
  /-- AND.rk, `AND d,K`, 0xDD, R385. -/
  | andRk (r : Reg16) (k : Word)
  /-- ORR.rk, `ORR d,K`, 0xDE, R386. -/
  | orrRk (r : Reg16) (k : Word)
  /-- XOR.rk, `XOR d,K`, 0xDF, R387. -/
  | xorRk (r : Reg16) (k : Word)
  /-- MUL.rr, `MUL d,r (map only)`, 0xE0, R390. -/
  | mulRr (rd : Reg16) (rs : Reg16)
  /-- MUK, `MUL d,K (map only)`, 0xE1, R391. -/
  | muk (r : Reg16) (k : Word)
  /-- DIV.rr, `DIV d,r (map only)`, 0xE2, R392. -/
  | divRr (rd : Reg16) (rs : Reg16)
  /-- DIK, `DIV d,K (map only)`, 0xE3, R393. -/
  | dik (r : Reg16) (k : Word)
  /-- MOD.rr, `MOD d,r (map only)`, 0xE4, R394. -/
  | modRr (rd : Reg16) (rs : Reg16)
  /-- MOK, `MOD d,K (map only)`, 0xE5, R395. -/
  | mok (r : Reg16) (k : Word)
  /-- ADD.ff, `ADD f,f`, 0xE8, R445. -/
  | addFf (rd : FReg) (rs : FReg)
  /-- MUL.ff, `MUL f,f`, 0xE9, R447. -/
  | mulFf (rd : FReg) (rs : FReg)
  /-- SUB.ff, `SUB f,f`, 0xEA, R448. -/
  | subFf (rd : FReg) (rs : FReg)
  /-- DIV.ff, `DIV f,f`, 0xEB, R449. -/
  | divFf (rd : FReg) (rs : FReg)
  /-- CMP.ff, `CMP f,f`, 0xEC, R446. -/
  | cmpFf (rd : FReg) (rs : FReg)
  /-- MOD.ff, `MOD f,f`, 0xED, R450. -/
  | modFf (rd : FReg) (rs : FReg)
  /-- INV, `INV f`, 0xF0, R473. -/
  | inv (r : FReg)
  /-- SRT, `SRT f`, 0xF1, R474. -/
  | srt (r : FReg)
  /-- IRT, `IRT f`, 0xF2, R475. -/
  | irt (r : FReg)
  /-- SIN, `SIN f`, 0xF3, R476. -/
  | sin (r : FReg)
  /-- COS, `COS f`, 0xF4, R477. -/
  | cos (r : FReg)
  /-- TAN, `TAN f`, 0xF5, R478. -/
  | tan (r : FReg)
  /-- ABS, `ABS f`, 0xF6, R479. -/
  | abs (r : FReg)
  /-- NEG.f, `NEG f`, 0xF7, R480. -/
  | negF (r : FReg)
  /-- ADD.fk, `ADD f,K`, 0xF8, R463. -/
  | addFk (r : FReg) (k : Word)
  /-- MUL.fk, `MUL f,K`, 0xF9, R464. -/
  | mulFk (r : FReg) (k : Word)
  /-- SUB.fk, `SUB f,K`, 0xFA, R465. -/
  | subFk (r : FReg) (k : Word)
  /-- DIV.fk, `DIV f,K`, 0xFB, R466. -/
  | divFk (r : FReg) (k : Word)
  /-- CMP.fk, `CMP f,K`, 0xFC, R467. -/
  | cmpFk (r : FReg) (k : Word)
  /-- MOD.fk, `MOD f,K (map only)`, 0xFD, R468. -/
  | modFk (r : FReg) (k : Word)
  /-- POW.ff, `POW f,f`, 0xFE, R451. -/
  | powFf (rd : FReg) (rs : FReg)
  /-- TRP, `TRP (map only)`, 0xFF, R321. -/
  | trp
  /-- TPC, `TPC`, no cell, R340. -/
  | tpc
  /-- EXF, `EXF`, no cell, R421. -/
  | exf
  /-- STM.Mr, `STM M,r`, no cell, R372. -/
  | stmMr (r : Reg16)
  /-- LDM.rM, `LDM r,M`, no cell, R373. -/
  | ldmRm (r : Reg16)
  /-- TRA.rK, `TRA r,K`, no cell, R374. -/
  | traRk (r : Reg16) (k : Word)
  /-- TRA.fK, `TRA f,K`, no cell, R462. -/
  | traFk (r : FReg) (k : Word)
  /-- SWP.fK, `SWP f,K`, no cell, R469. -/
  | swpFk (r : FReg) (k : Word)
  /-- BDS, `BDS`, no cell, R322: here for the table's row alone; no configured machine has it. DESIGN CHOICE, safe
  (notes/assumptions/14.md). -/
  | bds
deriving DecidableEq, Repr

end Sys2Proof
end

