-- ==== Sys2Proof/Machine/State.lean ====
section
/-! DEFINITION. The machine's state (spec/10_state.md R30 to R50): every piece the spec gives it, as plain data, the
reasons a step stops, and the state after reset. -/
namespace Sys2Proof.Machine

/-- FLAG (R33): the eight flags, in the source's order, FLAG bit 7 down to bit 0. No program reads or writes FLAG as a
byte (R32); `Flags.toByte` (Machine/Flags.lean) is the register as R33 lays it out (DEDUCED, safe:
notes/assumptions/11.md). -/
structure Flags where
  /-- Sign, FLAG bit 7. -/
  s : Bool
  /-- Zero, FLAG bit 6. -/
  z : Bool
  /-- Overflow, FLAG bit 5. -/
  v : Bool
  /-- Interrupt Enable, FLAG bit 4. -/
  i : Bool
  /-- Trap flag, FLAG bit 3; no effect on execution (R35). -/
  t : Bool
  /-- Parity, FLAG bit 2. -/
  p : Bool
  /-- Half Carry, FLAG bit 1. -/
  h : Bool
  /-- Carry, FLAG bit 0. -/
  c : Bool
deriving DecidableEq, Repr

/-- R0 to R7 (R36 to R38). H, L, B, C, D and E are halves of `r0`, `r1`, `r2` and no storage of their own (R40). -/
structure Regs where
  /-- R0, H:L. -/
  r0 : Word
  /-- R1, B:C; V8842 and above. -/
  r1 : Word
  /-- R2, D:E; V8842 and above. -/
  r2 : Word
  /-- R3; V80142 and above, as are R4 to R7. -/
  r3 : Word
  /-- R4. -/
  r4 : Word
  /-- R5. -/
  r5 : Word
  /-- R6. -/
  r6 : Word
  /-- R7. -/
  r7 : Word
deriving DecidableEq, Repr

/-- F0 to F3 (R39): raw bits; V80143 only. -/
structure FRegs where
  /-- F0. -/
  f0 : Word
  /-- F1. -/
  f1 : Word
  /-- F2. -/
  f2 : Word
  /-- F3. -/
  f3 : Word
deriving DecidableEq, Repr

/-- The run status (R44). -/
inductive Status where
  | running
  | waiting
  | halted
deriving DecidableEq, Repr

/-- `EXT_EVENTS` (R497): what the platform offers at this boundary and at every one after it, without end, as plain
data. DESIGN CHOICE, safe (notes/assumptions/9.md). -/
inductive EventStream where
  /-- The offer of this boundary, and what is offered from the next one on. -/
  | offer (now : Offer) (later : EventStream)
  /-- The offers of the list over and over, a line that keeps offering (R496) among them; for the empty list nothing,
  ever: R497's default. -/
  | cycle (offers : List Offer)
  /-- The stream nothing is known of, `Config.extEvents`, from the boundary of this index on. -/
  | oracle (boundary : Nat)
deriving DecidableEq, Repr

/-- Memory (R80) as the list of its bytes that differ from `Config.unloadedByte`; Machine/Memory.lean reads and writes
it and says its canonical form. -/
abbrev Memory := List Host.Cell

/-- The machine. `shadowA`, `shadowFlag`, `shadowX` and `shadowF` are `FA'`, `x'` and `f'` of R43. `cfg` and `events`
are parameters of the spec (R9, R49), held here because a step takes nothing but a state: no step changes `cfg`, and
each step passes one boundary of `events`. Registers the variant lacks stand here too; no instruction reaches them.
DESIGN CHOICE, safe (notes/assumptions/1.md, 9.md and 12.md). -/
structure State where
  /-- The parameters (R9). -/
  cfg : Config
  /-- The program counter (R30): while an instruction executes, the address of its opcode byte (R47). -/
  pc : Word
  /-- The stack pointer (R31): the address of the byte pushed last (R88). -/
  sp : Word
  /-- Acc, the low half of FA (R32). -/
  a : Byte
  /-- FLAG, the high half of FA (R33). -/
  flag : Flags
  /-- R0 to R7 (R36 to R38). -/
  x : Regs
  /-- F0 to F3 (R39). -/
  f : FRegs
  /-- The low half of FA' (R43). -/
  shadowA : Byte
  /-- The high half of FA' (R43). -/
  shadowFlag : Flags
  /-- R0' to R7' (R43). -/
  shadowX : Regs
  /-- F0' to F3' (R43). -/
  shadowF : FRegs
  /-- The run status (R44). -/
  status : Status
  /-- Memory (R80). -/
  mem : Memory
  /-- `EXT_EVENTS` (R497): what is offered at this boundary and at the ones after it. -/
  events : EventStream
deriving DecidableEq, Repr

/-- The kinds of trap (R492). -/
inductive TrapKind where
  | irq
  | nmi
  | trp
  | extIrq
  | extNmi
deriving DecidableEq, Repr

/-- Reading or writing, for the information of `AccessFault` (R491). -/
inductive Direction where
  | read
  | write
deriving DecidableEq, Repr

/-- Instruction fetch or data, for the information of `AccessFault` (R491). -/
inductive Purpose where
  | fetch
  | data
deriving DecidableEq, Repr

/-- One or two bytes, the widths of R87. -/
inductive Size where
  | byte
  | word
deriving DecidableEq, Repr

/-- One access to memory: what `AccessFault` carries (R491). -/
structure Access where
  /-- The address given to `MemRead` or `MemWrite`. -/
  addr : Word
  /-- How many bytes. -/
  size : Size
  /-- Read or write. -/
  dir : Direction
  /-- Fetch or data. -/
  purpose : Purpose
deriving DecidableEq, Repr

/-- The faults of R491. Each is SAFE: the spec gives the machine no further behaviour there (R490), the step answers no
state, and nothing can be proved of a run through it. `UnwrittenRead`, which R491 makes optional, is not used: every
location holds a value (DESIGN CHOICE, unsafe: notes/assumptions/5.md). No fault carries a state: the outcome is the
mark of R44 (DEDUCED, safe: notes/assumptions/17.md). -/
inductive Fault where
  /-- Raised by the fetch for an undefined opcode byte, one the variant lacks, or a reserved register byte (R143).
  Carries `pc`, the opcode byte, and the register byte when it was read. Safe. -/
  | undefinedInstruction (pc : Word) (opcode : Byte) (regByte : Option Byte)
  /-- Raised by every access to memory that `MEM_MAP` denies (R82, R83). Safe. -/
  | accessFault (access : Access)
  /-- Raised by DIV.rr, DIK, MOD.rr and MOK on a zero divisor (R396). Safe. -/
  | divideByZero (pc : Word)
  /-- Raised by a trap whose vector the platform has not supplied (R500). Safe. -/
  | vectorUnset (kind : TrapKind)
deriving DecidableEq, Repr

/-- Why the model goes no further where the spec names no fault. -/
inductive Refusal where
  /-- An instruction that has no meaning in this model yet; raised only by an arm of `exec`. Safe. -/
  | notModelled (mnemonic : String)
  /-- An access reached an address `MEM_MAP` marks `device`, whose behaviour the spec does not define (R82, R93).
  Raised by every access to memory. Safe. -/
  | deviceAccess (addr : Word)
  /-- BDS, to which the spec gives no encoding and no semantics (R322); no decoder produces it. Raised by its meaning.
  DESIGN CHOICE, safe (notes/assumptions/14.md). -/
  | bdsHasNoSemantics
  /-- The status is halted: no step remains (R317, R543). Raised by `step`; the state itself is the final state of the
  run, and this is no fault. DEDUCED, safe (notes/assumptions/6.md). -/
  | halted
  /-- A launch without `RESET_PC` (R543; spec/93_implementation_defined.md row 8). Raised by `launch`. Safe. -/
  | resetPcNotSupplied
  /-- A launch whose image puts a byte on an `absent` address (R543). Raised by `launch`. Safe. -/
  | imageOnAbsent (addr : Word)
deriving DecidableEq, Repr

/-- All eight registers the same. -/
def Regs.all (v : Word) : Regs := ⟨v, v, v, v, v, v, v, v⟩

/-- All four float registers the same. -/
def FRegs.all (v : Word) : FRegs := ⟨v, v, v, v⟩

/-- FLAG after reset: the bits of `Config.resetByte`, 0x5A, in the order of R33 (notes/assumptions/3.md). -/
def Flags.reset : Flags where
  s := false
  z := true
  v := false
  i := true
  t := true
  p := false
  h := true
  c := false

/-- The machine right after reset (R50, R540), under the parameters of the worked examples (`Config.reference`): `pc`
is `RESET_PC`, `SP` is `RESET_SP`, the status is running, memory has nothing loaded and no external request is offered.
Every register for which R50 states no value holds 0x5A in each of its bytes: DESIGN CHOICE, unsafe
(notes/assumptions/3.md). `launch` (Machine/Launch.lean) is reset for every other platform, image and draw. -/
def State.reset : State where
  cfg := Config.reference
  pc := 0x0000#16
  sp := 0x8000#16
  a := Config.resetByte
  flag := Flags.reset
  x := Regs.all Config.resetWord
  f := FRegs.all Config.resetWord
  shadowA := Config.resetByte
  shadowFlag := Flags.reset
  shadowX := Regs.all Config.resetWord
  shadowF := FRegs.all Config.resetWord
  status := .running
  mem := []
  events := .cycle []

/-! One update a field, so that Laws/State.lean can say once what each leaves alone. -/

/-- `pc <- v`. -/
def State.setPc (s : State) (v : Word) : State := { s with pc := v }
/-- `SP <- v`. -/
def State.setSp (s : State) (v : Word) : State := { s with sp := v }
/-- `A <- v`. -/
def State.setA (s : State) (v : Byte) : State := { s with a := v }
/-- FLAG as a whole. -/
def State.setFlag (s : State) (v : Flags) : State := { s with flag := v }
/-- The general registers as a whole. -/
def State.setX (s : State) (v : Regs) : State := { s with x := v }
/-- The float registers as a whole. -/
def State.setF (s : State) (v : FRegs) : State := { s with f := v }
/-- The run status. -/
def State.setStatus (s : State) (v : Status) : State := { s with status := v }
/-- Memory. -/
def State.setMem (s : State) (v : Memory) : State := { s with mem := v }
/-- What the platform still offers. -/
def State.setEvents (s : State) (v : EventStream) : State := { s with events := v }

end Sys2Proof.Machine
end

