-- ==== Sys2Proof/Machine/Flags.lean ====
section
/-! DEFINITION. FLAG and the flag functions (`FLAG_RULES`, spec/10_state.md R33, R45, R46), once for both operand
widths, and the operations of the arithmetic groups over them (files 40 and 43). -/
namespace Sys2Proof.Machine

/-- One flag, by its code (R121). -/
def Flags.get (f : Flags) (n : FlagName) : Bool :=
  match n with
  | .s => f.s
  | .z => f.z
  | .v => f.v
  | .i => f.i
  | .t => f.t
  | .p => f.p
  | .h => f.h
  | .c => f.c

/-- FLAG as the byte R33 lays out: S at bit 7 down to C at bit 0. -/
def Flags.toByte (f : Flags) : Byte :=
  BitVec.ofBool f.s ++ BitVec.ofBool f.z ++ BitVec.ofBool f.v ++ BitVec.ofBool f.i
    ++ BitVec.ofBool f.t ++ BitVec.ofBool f.p ++ BitVec.ofBool f.h ++ BitVec.ofBool f.c

/-- FA (R32): FLAG in bits 15..8, Acc in bits 7..0. -/
def State.fa (s : State) : Word := s.flag.toByte ++ s.a

/-- How many of the bits below `n` are 1. -/
def onesBelow {w : Nat} (v : BitVec w) (n : Nat) : Nat :=
  match n with
  | 0 => 0
  | k + 1 => onesBelow v k + (v.getLsbD k).toNat

/-- `parity_even` (R11): the number of 1 bits is even. -/
def parityEven {w : Nat} (v : BitVec w) : Bool := decide (onesBelow v w % 2 = 0)

/-- `SZP_W` (R45). -/
def Flags.szp {w : Nat} (f : Flags) (res : BitVec w) : Flags :=
  { f with s := res.msb, z := decide (res = 0#w), p := parityEven res }

/-- An operation with one operand: its result and the flags it leaves. -/
abbrev Op1 (w : Nat) := BitVec w → Flags → BitVec w × Flags

/-- An operation with two operands: its result and the flags it leaves. -/
abbrev Op2 (w : Nat) := BitVec w → BitVec w → Flags → BitVec w × Flags

/-- `AddFlags_W` (R45): the sum is taken unbounded and reduced at the end. -/
def addFlags {w : Nat} (a b : BitVec w) (cin : Bool) (f : Flags) : BitVec w × Flags :=
  let sum := a.toNat + b.toNat + cin.toNat
  let res := BitVec.ofNat w sum
  (res, { f.szp res with
    c := decide (2 ^ w ≤ sum)
    h := decide (16 ≤ a.toNat % 16 + b.toNat % 16 + cin.toNat)
    v := (a.msb == b.msb) && (res.msb != a.msb) })

/-- `SubFlags_W` (R45): the difference may be negative; C is the borrow. -/
def subFlags {w : Nat} (a b : BitVec w) (bin : Bool) (f : Flags) : BitVec w × Flags :=
  let diff : Int := (a.toNat : Int) - b.toNat - bin.toNat
  let res := BitVec.ofInt w diff
  (res, { f.szp res with
    c := decide (diff < 0)
    h := decide (((a.toNat % 16 : Nat) : Int) - ((b.toNat % 16 : Nat) : Int) - bin.toNat < 0)
    v := (a.msb != b.msb) && (res.msb != a.msb) })

/-- ADD (R160, R161, R345, R380). -/
def opAdd {w : Nat} : Op2 w := fun a b f => addFlags a b false f
/-- ADC (R162, R163, R346, R381): `flag.C` is read before it is written. -/
def opAdc {w : Nat} : Op2 w := fun a b f => addFlags a b f.c f
/-- SUB (R164, R165, R347, R382), and the subtraction of a compare (R169, R349). -/
def opSub {w : Nat} : Op2 w := fun a b f => subFlags a b false f
/-- SBC (R166, R167, R348, R383). -/
def opSbc {w : Nat} : Op2 w := fun a b f => subFlags a b f.c f
/-- AND (R171, R172, R350, R385). -/
def opAnd {w : Nat} : Op2 w := fun a b f => (a &&& b, f.szp (a &&& b))
/-- ORR (R173, R174, R351, R386). -/
def opOrr {w : Nat} : Op2 w := fun a b f => (a ||| b, f.szp (a ||| b))
/-- XOR (R175, R176, R352, R387). -/
def opXor {w : Nat} : Op2 w := fun a b f => (a ^^^ b, f.szp (a ^^^ b))
/-- MUL (R390, R391): the low half of the product. -/
def opMul {w : Nat} : Op2 w := fun a b f =>
  let res := BitVec.ofNat w (a.toNat * b.toNat)
  (res, f.szp res)

/-- The quotient of R396, for a divisor that is not zero: unsigned, or with `DIV_SIGNED` truncated toward zero. -/
def quotient {w : Nat} (signed : Bool) (a b : BitVec w) : BitVec w :=
  if signed then BitVec.ofInt w (a.toInt.tdiv b.toInt) else BitVec.ofNat w (a.toNat / b.toNat)

/-- The remainder of R396, for a divisor that is not zero: unsigned, or with `DIV_SIGNED` of the dividend's sign. -/
def remainder {w : Nat} (signed : Bool) (a b : BitVec w) : BitVec w :=
  if signed then BitVec.ofInt w (a.toInt.tmod b.toInt) else BitVec.ofNat w (a.toNat % b.toNat)

/-- DIV (R392, R393). -/
def opDiv {w : Nat} (signed : Bool) : Op2 w := fun a b f => (quotient signed a b, f.szp (quotient signed a b))
/-- MOD (R394, R395). -/
def opMod {w : Nat} (signed : Bool) : Op2 w := fun a b f => (remainder signed a b, f.szp (remainder signed a b))

/-- A shift or rotate by one position: the result, and in C the bit moved out (R186). -/
def shifted {w : Nat} (res : BitVec w) (out : Bool) (f : Flags) : BitVec w × Flags :=
  (res, { f.szp res with c := out })

/-- ASL (R180, R360): a 0 enters at the right. -/
def opAsl {w : Nat} : Op1 w := fun v f => shifted (v <<< 1) v.msb f
/-- The 8-bit ASR (R181): a logical shift, a 0 enters at the left. -/
def opLsr {w : Nat} : Op1 w := fun v f => shifted (v >>> 1) (v.getLsbD 0) f
/-- The 16-bit ASR (R361): the sign bit stays. -/
def opAsr {w : Nat} : Op1 w := fun v f => shifted (v.sshiftRight 1) (v.getLsbD 0) f
/-- ROL (R182, R362): what enters at the right is the bit moved out, or with `ROTATE_THROUGH_CARRY` the old C. -/
def opRol {w : Nat} (throughCarry : Bool) : Op1 w := fun v f =>
  let entering := if throughCarry then f.c else v.msb
  shifted (v <<< 1 ||| (BitVec.ofBool entering).setWidth w) v.msb f
/-- ROR (R183, R363): what enters at the left is the bit moved out, or with `ROTATE_THROUGH_CARRY` the old C. -/
def opRor {w : Nat} (throughCarry : Bool) : Op1 w := fun v f =>
  let entering := if throughCarry then f.c else v.getLsbD 0
  shifted (v >>> 1 ||| (BitVec.ofBool entering).setWidth w <<< (w - 1)) (v.getLsbD 0) f
/-- COM (R184, R364): every bit inverted. -/
def opCom {w : Nat} : Op1 w := fun v f => (~~~v, f.szp (~~~v))
/-- NEG (R185, R365): `SubFlags_W(0, v, 0)`. -/
def opNeg {w : Nat} : Op1 w := fun v f => subFlags 0#w v false f

/-- The flags a float compare leaves (R446): S, Z and V from the table, the others as they were. -/
def Flags.floatCompare (f : Flags) (r : FloatOrder) : Flags :=
  match r with
  | .lt => { f with s := true, z := false, v := false }
  | .eq => { f with s := false, z := true, v := false }
  | .gt => { f with s := false, z := false, v := false }
  | .unordered => { f with s := false, z := false, v := true }

/-- The conditions of the relational jumps (R292): equal. -/
def Flags.isEq (f : Flags) : Bool := f.z
/-- R292: signed less-than. -/
def Flags.isLt (f : Flags) : Bool := f.s != f.v
/-- R292: signed less-than or equal. -/
def Flags.isLe (f : Flags) : Bool := f.z || (f.s != f.v)

end Sys2Proof.Machine
end

