-- ==== Sys2Proof/Machine/Bytes.lean ====
section
/-! DEFINITION. Halves of words, byte order, and the widening of a byte: the bit-field helpers every layer uses
(spec/00_scope.md R10, R11; spec/20_memory.md R82 to R84). -/
namespace Sys2Proof

/-- `v[15:8]`: the high half of a word (R10). -/
def hiByte (v : Word) : Byte := v.extractLsb' 8 8

/-- `v[7:0]`: the low half of a word (R10). -/
def loByte (v : Word) : Byte := v.extractLsb' 0 8

/-- `hi ++ lo` (R11). -/
def wordOf (hi lo : Byte) : Word := hi ++ lo

/-- The word whose bytes stand at an address and the next one (R82): under `big` the first byte is the high half. -/
def joinWord (o : ByteOrder) (first second : Byte) : Word :=
  match o with
  | .big => wordOf first second
  | .little => wordOf second first

/-- The byte of a word that stands at the lower address (R83). -/
def firstByte (o : ByteOrder) (v : Word) : Byte :=
  match o with
  | .big => hiByte v
  | .little => loByte v

/-- The byte of a word that stands at the higher address (R83). -/
def secondByte (o : ByteOrder) (v : Word) : Byte :=
  match o with
  | .big => loByte v
  | .little => hiByte v

/-- The two bytes of a constant of an instruction, in `BYTE_ORDER` (R128). -/
def wordBytes (o : ByteOrder) (v : Word) : List Byte :=
  [firstByte o v, secondByte o v]

/-- A byte widened to 16 bits by `TRA8_HIGH` (R342, R443): `keep` leaves the upper half of `old`. -/
def widen (mode : Tra8High) (old : Word) (v : Byte) : Word :=
  match mode with
  | .sign => v.signExtend 16
  | .zero => v.setWidth 16
  | .keep => wordOf (hiByte old) v

end Sys2Proof
end

