-- ==== Sys2Proof/Machine/Memory.lean ====
section
/-! DEFINITION. Memory (spec/20_memory.md R80, R82, R83): the function from address to byte of R82, held as the list of
its bytes that are not `Config.unloadedByte`, addresses rising. -/
namespace Sys2Proof.Machine

/-- `mem[addr]` (R82). An address that is not listed reads as `Config.unloadedByte` (notes/assumptions/4.md). -/
def Memory.read (m : Memory) (addr : Word) : Byte :=
  match m with
  | [] => Config.unloadedByte
  | c :: rest => if c.1 = addr.toNat then c.2 else Memory.read rest addr

/-- Puts a cell before the first one at a higher address. -/
def Memory.place (m : Memory) (cell : Host.Cell) : Memory :=
  match m with
  | [] => [cell]
  | c :: rest => if cell.1 < c.1 then cell :: c :: rest else c :: Memory.place rest cell

/-- The list without an address. -/
def Memory.without (m : Memory) (addr : Nat) : Memory :=
  m.filter fun c => decide (c.1 ≠ addr)

/-- `mem[addr] <- v` (R83). Writing what an unlisted address reads as takes the entry away, so that equal memories are
equal lists. -/
def Memory.write (m : Memory) (addr : Word) (v : Byte) : Memory :=
  if v = Config.unloadedByte then Memory.without m addr.toNat
  else Memory.place (Memory.without m addr.toNat) (addr.toNat, v)

/-- The canonical form: addresses strictly rising, all of them 16-bit (R80), no entry equal to what an unlisted address
reads as. -/
abbrev Memory.wf (m : Memory) : Prop :=
  m.Pairwise (fun c d => c.1 < d.1) ∧ ∀ c ∈ m, c.1 < 65536 ∧ c.2 ≠ Config.unloadedByte

end Sys2Proof.Machine
end

