-- ==== Sys2Proof/Machine/Ops.lean ====
section
/-! DEFINITION. The named operations over memory, registers and the stack (spec/20_memory.md R82 to R92, spec/10_state.md
R36 to R40), and taking a trap and returning from one (spec/60_exceptions.md R500, R502). -/
namespace Sys2Proof.Machine

/-- An answer of the machine: a value, a fault or a refusal. -/
abbrev Res (α : Type) := Host.Outcome α Fault Refusal

/-- Goes on with the value, or stops as `r` stopped. -/
def andThen {α β : Type} (r : Res α) (k : α → Res β) : Res β :=
  match r with
  | .next a => k a
  | .fault e => .fault e
  | .refused e => .refused e

/-! ## Memory accesses -/

/-- What `MEM_MAP` says of an address (R9): the first range that holds it, ram where none does (R95's default). -/
def memKind (cfg : Config) (addr : Word) : MemKind :=
  match cfg.memMap.find? (fun r => decide (r.first ≤ addr ∧ addr ≤ r.last)) with
  | some r => r.kind
  | none => .ram

/-- The addresses an access touches (R85): the second byte of a word wraps to 0x0000 after 0xFFFF. -/
def Access.touched (q : Access) : List Word :=
  match q.size with
  | .byte => [q.addr]
  | .word => [q.addr, q.addr + 1#16]

/-- `MEM_MAP` denies the access (R82, R83): a read of `absent`, a write of `absent` or `rom`. -/
def denied (dir : Direction) (kind : MemKind) : Bool :=
  match dir, kind with
  | _, .absent => true
  | .write, .rom => true
  | _, _ => false

/-- What happens before any byte is read or written: `AccessFault` if one touched address is denied (R82, R83); a
refusal if one belongs to a device, whose behaviour the spec does not define (R82, R93). The denial is looked for
first (DESIGN CHOICE, safe: notes/assumptions/8.md). -/
def access (cfg : Config) (q : Access) : Res Unit :=
  if q.touched.any (fun a => denied q.dir (memKind cfg a)) then .fault (.accessFault q)
  else
    match q.touched.find? (fun a => decide (memKind cfg a = .device)) with
    | some a => .refused (.deviceAccess a)
    | none => .next ()

/-- Every touched address may be accessed and is no device: exactly when `access` lets the access through. -/
def allows (cfg : Config) (q : Access) : Bool :=
  q.touched.all fun a => !denied q.dir (memKind cfg a) && !decide (memKind cfg a = .device)

/-- A read of data, one byte or a word. -/
def readOf (addr : Word) (size : Size) : Access := ⟨addr, size, .read, .data⟩

/-- A write of data, one byte or a word. -/
def writeOf (addr : Word) (size : Size) : Access := ⟨addr, size, .write, .data⟩

/-- The word at an address as memory holds it, no access checked (R82). -/
def State.wordAt (s : State) (addr : Word) : Word :=
  joinWord s.cfg.byteOrder (s.mem.read addr) (s.mem.read (addr + 1#16))

/-- Memory with a word put at an address, no access checked (R83). -/
def State.withWord (s : State) (addr v : Word) : Memory :=
  (s.mem.write addr (firstByte s.cfg.byteOrder v)).write (addr + 1#16) (secondByte s.cfg.byteOrder v)

/-- `MemRead(addr, 1)` (R82). -/
def memRead8 (addr : Word) (s : State) : Res Byte :=
  andThen (access s.cfg (readOf addr .byte)) fun _ => .next (s.mem.read addr)

/-- `MemRead(addr, 2)` (R82). -/
def memRead16 (addr : Word) (s : State) : Res Word :=
  andThen (access s.cfg (readOf addr .word)) fun _ => .next (s.wordAt addr)

/-- `MemWrite(addr, 1, v)` (R83). -/
def memWrite8 (addr : Word) (v : Byte) (s : State) : Res State :=
  andThen (access s.cfg (writeOf addr .byte)) fun _ => .next (s.setMem (s.mem.write addr v))

/-- `MemWrite(addr, 2, v)` (R83): both bytes are checked before either is written (R499). -/
def memWrite16 (addr v : Word) (s : State) : Res State :=
  andThen (access s.cfg (writeOf addr .word)) fun _ => .next (s.setMem (s.withWord addr v))

/-! ## The program counter -/

/-- `pc <- next` for an instruction of `length` bytes (R47, R48). -/
def State.advance (s : State) (length : Word) : State := s.setPc (s.pc + length)

/-! ## Registers -/

/-- `x[i]` (R11). -/
def Regs.get (x : Regs) (r : Reg16) : Word :=
  match r with
  | .r0 => x.r0
  | .r1 => x.r1
  | .r2 => x.r2
  | .r3 => x.r3
  | .r4 => x.r4
  | .r5 => x.r5
  | .r6 => x.r6
  | .r7 => x.r7

/-- `x[i] <- v` (R11). -/
def Regs.set (x : Regs) (r : Reg16) (v : Word) : Regs :=
  match r with
  | .r0 => { x with r0 := v }
  | .r1 => { x with r1 := v }
  | .r2 => { x with r2 := v }
  | .r3 => { x with r3 := v }
  | .r4 => { x with r4 := v }
  | .r5 => { x with r5 := v }
  | .r6 => { x with r6 := v }
  | .r7 => { x with r7 := v }

/-- `f[i]` (R11). -/
def FRegs.get (f : FRegs) (r : FReg) : Word :=
  match r with
  | .f0 => f.f0
  | .f1 => f.f1
  | .f2 => f.f2
  | .f3 => f.f3

/-- `f[i] <- v` (R11). -/
def FRegs.set (f : FRegs) (r : FReg) (v : Word) : FRegs :=
  match r with
  | .f0 => { f with f0 := v }
  | .f1 => { f with f1 := v }
  | .f2 => { f with f2 := v }
  | .f3 => { f with f3 := v }

/-- The variant has the 16-bit register (R3, R36 to R38). -/
def Reg16.present (v : Variant) (r : Reg16) : Bool :=
  match r with
  | .r0 => true
  | .r1 => v.has .v8842
  | .r2 => v.has .v8842
  | .r3 => v.has .v80142
  | .r4 => v.has .v80142
  | .r5 => v.has .v80142
  | .r6 => v.has .v80142
  | .r7 => v.has .v80142

/-- Each register of `mine` the variant has taken from `other`, the rest as in `mine`: one side of the exchange of
R420. -/
def Regs.exchanged (v : Variant) (mine other : Regs) : Regs where
  r0 := if Reg16.present v .r0 then other.r0 else mine.r0
  r1 := if Reg16.present v .r1 then other.r1 else mine.r1
  r2 := if Reg16.present v .r2 then other.r2 else mine.r2
  r3 := if Reg16.present v .r3 then other.r3 else mine.r3
  r4 := if Reg16.present v .r4 then other.r4 else mine.r4
  r5 := if Reg16.present v .r5 then other.r5 else mine.r5
  r6 := if Reg16.present v .r6 then other.r6 else mine.r6
  r7 := if Reg16.present v .r7 then other.r7 else mine.r7

/-- `HL`, the address of M (R36). -/
def State.hl (s : State) : Word := s.x.r0

/-! ## The stack -/

/-- `Push8(v)` (R88). -/
def push8 (v : Byte) (s : State) : Res State :=
  memWrite8 (s.sp - 1#16) v (s.setSp (s.sp - 1#16))

/-- `Pull8()` (R89): the byte and the state after it. -/
def pull8 (s : State) : Res (Byte × State) :=
  andThen (memRead8 s.sp s) fun v => .next (v, s.setSp (s.sp + 1#16))

/-- `Push16(v)` (R90). -/
def push16 (v : Word) (s : State) : Res State :=
  memWrite16 (s.sp - 2#16) v (s.setSp (s.sp - 2#16))

/-- `Pull16()` (R91): the word and the state after it. -/
def pull16 (s : State) : Res (Word × State) :=
  andThen (memRead16 s.sp s) fun v => .next (v, s.setSp (s.sp + 2#16))

/-! ## Traps -/

/-- The handler's address of a kind of trap, if the platform supplies it (R500). -/
def vectorOf (cfg : Config) (kind : TrapKind) : Option Word :=
  match kind with
  | .irq => cfg.vecIrq
  | .extIrq => cfg.vecIrq
  | .nmi => cfg.vecNmi
  | .extNmi => cfg.vecNmi
  | .trp => cfg.vecTrp

/-- The return address of a kind of trap (R500): past the requesting instruction, which has one byte, or for an
external request the instruction not yet executed. -/
def returnAddress (kind : TrapKind) (s : State) : Word :=
  match kind with
  | .irq => s.pc + 1#16
  | .nmi => s.pc + 1#16
  | .trp => s.pc + 1#16
  | .extIrq => s.pc
  | .extNmi => s.pc

/-- `flag.I <- v`. -/
def State.setI (s : State) (v : Bool) : State := s.setFlag { s.flag with i := v }

/-- `Trap(kind)` (R500), the same for all five kinds: the vector is looked up first (R499, point 8), the return address
is pushed, I is cleared, control goes to the vector, and the machine runs. -/
def trap (kind : TrapKind) (s : State) : Res State :=
  match vectorOf s.cfg kind with
  | none => .fault (.vectorUnset kind)
  | some v =>
    andThen (push16 (returnAddress kind s) s) fun t =>
      .next (((t.setI false).setPc v).setStatus .running)

/-- Return from a trap (R314, R502): `pc <- Pull16(); flag.I <- 1`. -/
def returnFromTrap (s : State) : Res State :=
  andThen (pull16 s) fun p => .next ((p.2.setPc p.1).setI true)

end Sys2Proof.Machine
end

