-- ==== Sys2Proof/Machine/Operands.lean ====
section
/-! DEFINITION. Operand forms: the 8-bit operand codes (spec/10_state.md R40), float transfers (spec/45_float.md R431,
R441 to R444) and jump targets (spec/42_jump_control.md R281, R285, R311). -/
namespace Sys2Proof.Machine

/-- `Op8Read(c)` (R40). M is the byte at HL at the moment of the access. -/
def op8Read (r : Reg8) (s : State) : Res Byte :=
  match r with
  | .a => .next s.a
  | .h => .next (hiByte s.x.r0)
  | .l => .next (loByte s.x.r0)
  | .b => .next (hiByte s.x.r1)
  | .c => .next (loByte s.x.r1)
  | .d => .next (hiByte s.x.r2)
  | .e => .next (loByte s.x.r2)
  | .m => memRead8 s.hl s

/-- `Op8Write(c, v)` (R40): the other half of the pair stays. -/
def op8Write (r : Reg8) (v : Byte) (s : State) : Res State :=
  match r with
  | .a => .next (s.setA v)
  | .h => .next (s.setX { s.x with r0 := wordOf v (loByte s.x.r0) })
  | .l => .next (s.setX { s.x with r0 := wordOf (hiByte s.x.r0) v })
  | .b => .next (s.setX { s.x with r1 := wordOf v (loByte s.x.r1) })
  | .c => .next (s.setX { s.x with r1 := wordOf (hiByte s.x.r1) v })
  | .d => .next (s.setX { s.x with r2 := wordOf v (loByte s.x.r2) })
  | .e => .next (s.setX { s.x with r2 := wordOf (hiByte s.x.r2) v })
  | .m => memWrite8 s.hl v s

/-- `FLOAT.xfer_in` (R431): the identity by default. -/
def xferIn (cfg : Config) (v : Word) : Word :=
  match cfg.xferIn with
  | .identity => v
  | .convert => Config.xferInFn v

/-- `FLOAT.xfer_out` (R431): the identity by default. -/
def xferOut (cfg : Config) (v : Word) : Word :=
  match cfg.xferOut with
  | .identity => v
  | .convert => Config.xferOutFn v

/-- `RelTarget(K16)` (R281), for a jump of three bytes. -/
def relTarget (k : Word) (s : State) : Word :=
  match s.cfg.relBase with
  | .own => s.pc + k
  | .next => s.pc + 3#16 + k

/-- The target of JMP M and JSR M (R285, R311): HL, or with `JMM_INDIRECT` the word at HL. -/
def targetM (s : State) : Res Word :=
  if s.cfg.jmmIndirect then memRead16 s.hl s else .next s.hl

end Sys2Proof.Machine
end

