-- ==== Sys2Proof/Machine/Alu8.lean ====
section
/-! DEFINITION. 8-bit arithmetic (spec/40_alu8.md R160 to R187): a meaning per instruction, over the shapes below. -/
namespace Sys2Proof.Machine

/-- A two-operand operation on A (R178): the result to A, the flags of the operation, pc past the instruction. -/
def alu8 (op : Op2 8) (b : Byte) (length : Word) (s : State) : State :=
  ((s.setA (op s.a b s.flag).1).setFlag (op s.a b s.flag).2).advance length

/-- The constant form, two bytes (R178). -/
def alu8Const (op : Op2 8) (k : Byte) (s : State) : Res State :=
  .next (alu8 op k 2#16 s)

/-- The register form, one byte (R178): the operand is read once, before anything is written. -/
def alu8Reg (op : Op2 8) (r : Reg8) (s : State) : Res State :=
  andThen (op8Read r s) fun b => .next (alu8 op b 1#16 s)

/-- A compare (R169, R170): the flags of A - b, and A is not written. -/
def compare8 (b : Byte) (length : Word) (s : State) : State :=
  (s.setFlag (opSub s.a b s.flag).2).advance length

/-- CMP with a constant (R169). -/
def compare8Const (k : Byte) (s : State) : Res State :=
  .next (compare8 k 2#16 s)

/-- CMP with a register or the byte at HL (R170). -/
def compare8Reg (r : Reg8) (s : State) : Res State :=
  andThen (op8Read r s) fun b => .next (compare8 b 1#16 s)

/-- An operation on A alone, one byte (R186). -/
def accOp (op : Op1 8) (s : State) : Res State :=
  .next (((s.setA (op s.a s.flag).1).setFlag (op s.a s.flag).2).advance 1#16)

/-- ADI (R160): A <- A + k. -/
def execAdi (k : Byte) (s : State) : Res State :=
  alu8Const opAdd k s

/-- ADH (R161): A <- A + H. -/
def execAdh (s : State) : Res State :=
  alu8Reg opAdd .h s

/-- ADL (R161): A <- A + L. -/
def execAdl (s : State) : Res State :=
  alu8Reg opAdd .l s

/-- ADB (R161): A <- A + B. -/
def execAdb (s : State) : Res State :=
  alu8Reg opAdd .b s

/-- ADC (R161): A <- A + C. -/
def execAdc (s : State) : Res State :=
  alu8Reg opAdd .c s

/-- ADD (R161): A <- A + D. -/
def execAdd (s : State) : Res State :=
  alu8Reg opAdd .d s

/-- ADE (R161): A <- A + E. -/
def execAde (s : State) : Res State :=
  alu8Reg opAdd .e s

/-- ADM (R161): A <- A + the byte at HL. -/
def execAdm (s : State) : Res State :=
  alu8Reg opAdd .m s

/-- ACI (R162): A <- A + k + C. -/
def execAci (k : Byte) (s : State) : Res State :=
  alu8Const opAdc k s

/-- ACH (R163): A <- A + H + C. -/
def execAch (s : State) : Res State :=
  alu8Reg opAdc .h s

/-- ACL (R163): A <- A + L + C. -/
def execAcl (s : State) : Res State :=
  alu8Reg opAdc .l s

/-- ACB (R163): A <- A + B + C. -/
def execAcb (s : State) : Res State :=
  alu8Reg opAdc .b s

/-- ACC (R163): A <- A + C + C. -/
def execAcc (s : State) : Res State :=
  alu8Reg opAdc .c s

/-- ACD (R163): A <- A + D + C. -/
def execAcd (s : State) : Res State :=
  alu8Reg opAdc .d s

/-- ACE (R163): A <- A + E + C. -/
def execAce (s : State) : Res State :=
  alu8Reg opAdc .e s

/-- ACM (R163): A <- A + the byte at HL + C. -/
def execAcm (s : State) : Res State :=
  alu8Reg opAdc .m s

/-- SUI (R164): A <- A - k. -/
def execSui (k : Byte) (s : State) : Res State :=
  alu8Const opSub k s

/-- SUH (R165): A <- A - H. -/
def execSuh (s : State) : Res State :=
  alu8Reg opSub .h s

/-- SUL (R165): A <- A - L. -/
def execSul (s : State) : Res State :=
  alu8Reg opSub .l s

/-- SUB (R165): A <- A - B. -/
def execSub (s : State) : Res State :=
  alu8Reg opSub .b s

/-- SUC (R165): A <- A - C. -/
def execSuc (s : State) : Res State :=
  alu8Reg opSub .c s

/-- SUD (R165): A <- A - D. -/
def execSud (s : State) : Res State :=
  alu8Reg opSub .d s

/-- SUE (R165): A <- A - E. -/
def execSue (s : State) : Res State :=
  alu8Reg opSub .e s

/-- SUM (R165): A <- A - the byte at HL. -/
def execSum (s : State) : Res State :=
  alu8Reg opSub .m s

/-- SCI (R166): A <- A - k - C. -/
def execSci (k : Byte) (s : State) : Res State :=
  alu8Const opSbc k s

/-- SCH (R167): A <- A - H - C. -/
def execSch (s : State) : Res State :=
  alu8Reg opSbc .h s

/-- SCL (R167): A <- A - L - C. -/
def execScl (s : State) : Res State :=
  alu8Reg opSbc .l s

/-- SCB (R167): A <- A - B - C. -/
def execScb (s : State) : Res State :=
  alu8Reg opSbc .b s

/-- SCC (R167): A <- A - C - C. -/
def execScc (s : State) : Res State :=
  alu8Reg opSbc .c s

/-- SCD (R167): A <- A - D - C. -/
def execScd (s : State) : Res State :=
  alu8Reg opSbc .d s

/-- SCE (R167): A <- A - E - C. -/
def execSce (s : State) : Res State :=
  alu8Reg opSbc .e s

/-- SCM (R167): A <- A - the byte at HL - C. -/
def execScm (s : State) : Res State :=
  alu8Reg opSbc .m s

/-- CPI (R169): compare A with k. -/
def execCpi (k : Byte) (s : State) : Res State :=
  compare8Const k s

/-- CPH (R170): compare A with H. -/
def execCph (s : State) : Res State :=
  compare8Reg .h s

/-- CPL (R170): compare A with L. -/
def execCpl (s : State) : Res State :=
  compare8Reg .l s

/-- CPB (R170): compare A with B. -/
def execCpb (s : State) : Res State :=
  compare8Reg .b s

/-- CPC (R170): compare A with C. -/
def execCpc (s : State) : Res State :=
  compare8Reg .c s

/-- CPD (R170): compare A with D. -/
def execCpd (s : State) : Res State :=
  compare8Reg .d s

/-- CPE (R170): compare A with E. -/
def execCpe (s : State) : Res State :=
  compare8Reg .e s

/-- CPM (R170): compare A with the byte at HL. -/
def execCpm (s : State) : Res State :=
  compare8Reg .m s

/-- ANI (R171): A <- A and k. -/
def execAni (k : Byte) (s : State) : Res State :=
  alu8Const opAnd k s

/-- ANH (R172): A <- A and H. -/
def execAnh (s : State) : Res State :=
  alu8Reg opAnd .h s

/-- ANL (R172): A <- A and L. -/
def execAnl (s : State) : Res State :=
  alu8Reg opAnd .l s

/-- ANB (R172): A <- A and B. -/
def execAnb (s : State) : Res State :=
  alu8Reg opAnd .b s

/-- ANC (R172): A <- A and C. -/
def execAnc (s : State) : Res State :=
  alu8Reg opAnd .c s

/-- AND (R172): A <- A and D. -/
def execAnd (s : State) : Res State :=
  alu8Reg opAnd .d s

/-- ANE (R172): A <- A and E. -/
def execAne (s : State) : Res State :=
  alu8Reg opAnd .e s

/-- ANM (R172): A <- A and the byte at HL. -/
def execAnm (s : State) : Res State :=
  alu8Reg opAnd .m s

/-- ORI (R173): A <- A or k. -/
def execOri (k : Byte) (s : State) : Res State :=
  alu8Const opOrr k s

/-- ORH (R174): A <- A or H. -/
def execOrh (s : State) : Res State :=
  alu8Reg opOrr .h s

/-- ORL (R174): A <- A or L. -/
def execOrl (s : State) : Res State :=
  alu8Reg opOrr .l s

/-- ORB (R174): A <- A or B. -/
def execOrb (s : State) : Res State :=
  alu8Reg opOrr .b s

/-- ORC (R174): A <- A or C. -/
def execOrc (s : State) : Res State :=
  alu8Reg opOrr .c s

/-- ORD (R174): A <- A or D. -/
def execOrd (s : State) : Res State :=
  alu8Reg opOrr .d s

/-- ORE (R174): A <- A or E. -/
def execOre (s : State) : Res State :=
  alu8Reg opOrr .e s

/-- ORM (R174): A <- A or the byte at HL. -/
def execOrm (s : State) : Res State :=
  alu8Reg opOrr .m s

/-- XRI (R175): A <- A xor k. -/
def execXri (k : Byte) (s : State) : Res State :=
  alu8Const opXor k s

/-- XRH (R176): A <- A xor H. -/
def execXrh (s : State) : Res State :=
  alu8Reg opXor .h s

/-- XRL (R176): A <- A xor L. -/
def execXrl (s : State) : Res State :=
  alu8Reg opXor .l s

/-- XRB (R176): A <- A xor B. -/
def execXrb (s : State) : Res State :=
  alu8Reg opXor .b s

/-- XRC (R176): A <- A xor C. -/
def execXrc (s : State) : Res State :=
  alu8Reg opXor .c s

/-- XRD (R176): A <- A xor D. -/
def execXrd (s : State) : Res State :=
  alu8Reg opXor .d s

/-- XRE (R176): A <- A xor E. -/
def execXre (s : State) : Res State :=
  alu8Reg opXor .e s

/-- XRM (R176): A <- A xor the byte at HL. -/
def execXrm (s : State) : Res State :=
  alu8Reg opXor .m s

/-- ASL (R180): A one place left, the bit moved out to C. -/
def execAsl (s : State) : Res State :=
  accOp opAsl s

/-- ASR (R181): A one place right, a 0 entering, the bit moved out to C. -/
def execAsr (s : State) : Res State :=
  accOp opLsr s

/-- ROL (R182): A rotated one place left. -/
def execRol (s : State) : Res State :=
  accOp (opRol s.cfg.rotateThroughCarry) s

/-- ROR (R183): A rotated one place right. -/
def execRor (s : State) : Res State :=
  accOp (opRor s.cfg.rotateThroughCarry) s

/-- COM (R184): A every bit inverted. -/
def execCom (s : State) : Res State :=
  accOp opCom s

/-- NEG (R185): A <- 0 - A. -/
def execNeg (s : State) : Res State :=
  accOp opNeg s

end Sys2Proof.Machine
end

