-- ==== Sys2Proof/Machine/Extended.lean ====
section
/-! DEFINITION. The shadow register exchange (spec/44_extended.md R420 to R422). -/
namespace Sys2Proof.Machine

/-- The exchange of EXR (R420): FA with FA', and each general register the variant has with its shadow. -/
def exchangeGeneral (s : State) : State :=
  { s with
    a := s.shadowA
    flag := s.shadowFlag
    x := Regs.exchanged s.cfg.variant s.x s.shadowX
    shadowA := s.a
    shadowFlag := s.flag
    shadowX := Regs.exchanged s.cfg.variant s.shadowX s.x }

/-- The exchange of EXF (R421). -/
def exchangeFloat (s : State) : State :=
  { s with f := s.shadowF, shadowF := s.f }

/-- EXR (R420): FA and every general register of the variant exchanged with their shadows; SP is not. -/
def execExr (s : State) : Res State :=
  .next ((exchangeGeneral s).advance 1#16)

/-- EXF (R421): F0 to F3 exchanged with their shadows, and nothing else. -/
def execExf (s : State) : Res State :=
  .next ((exchangeFloat s).advance 1#16)

end Sys2Proof.Machine
end

