-- ==== Sys2Proof/Machine/Float16.lean ====
section
/-! DEFINITION. Float (16) instructions (spec/45_float.md R440 to R481). Every numeric result is a function of the `FLOAT`
record (R431), of which nothing is known; no instruction but CMP writes a flag (R432). -/
namespace Sys2Proof.Machine

/-- `f[rd] <- v`, pc past the instruction. -/
def floatTo (rd : FReg) (v : Word) (length : Word) (s : State) : State :=
  (s.setF (s.f.set rd v)).advance length

/-- A two-operand operation that stores to its first operand (R432). -/
def float2 (fn : Word → Word → Word) (rd : FReg) (b : Word) (length : Word) (s : State) : State :=
  floatTo rd (fn (s.f.get rd) b) length s

/-- A float compare (R446): S, Z and V, and no register is written. -/
def compareFloat (a b : Word) (length : Word) (s : State) : State :=
  (s.setFlag (s.flag.floatCompare (Config.fcmp a b))).advance length

/-- LFK (R460): f[r] <- the word at k, raw bits. -/
def execLfk (r : FReg) (k : Word) (s : State) : Res State :=
  andThen (memRead16 k s) fun v => .next (floatTo r v 4#16 s)

/-- SFK (R461): the word at k <- f[r]. -/
def execSfk (r : FReg) (k : Word) (s : State) : Res State :=
  andThen (memWrite16 k (s.f.get r) s) fun t => .next (t.advance 4#16)

/-- PSH.f (R471): f[r] is pushed. -/
def execPshF (r : FReg) (s : State) : Res State :=
  andThen (push16 (s.f.get r) s) fun t => .next (t.advance 2#16)

/-- PUL.f (R472): f[r] <- the word pulled. -/
def execPulF (r : FReg) (s : State) : Res State :=
  andThen (pull16 s) fun p => .next (floatTo r p.1 2#16 p.2)

/-- TFF (R440): f[rd] <- f[rs]. -/
def execTFF (rd : FReg) (rs : FReg) (s : State) : Res State :=
  .next (floatTo rd (s.f.get rs) 2#16 s)

/-- TRF (R441): f[rd] <- xfer_in(x[rs]). -/
def execTRF (rd : FReg) (rs : Reg16) (s : State) : Res State :=
  .next (floatTo rd (xferIn s.cfg (s.x.get rs)) 2#16 s)

/-- TFR (R442): x[rd] <- xfer_out(f[rs]). -/
def execTFR (rd : Reg16) (rs : FReg) (s : State) : Res State :=
  .next ((s.setX (s.x.set rd (xferOut s.cfg (s.f.get rs)))).advance 2#16)

/-- TrF (R443): f[rd] <- xfer_in of the byte, widened by `TRA8_HIGH`. -/
def execTrF (rd : FReg) (rs : Reg8) (s : State) : Res State :=
  andThen (op8Read rs s) fun v =>
    .next (floatTo rd (xferIn s.cfg (widen s.cfg.tra8High (s.f.get rd) v)) 2#16 s)

/-- TFr (R444): the 8-bit operand <- xfer_out(f[rs])[7:0]. -/
def execTFr (rd : Reg8) (rs : FReg) (s : State) : Res State :=
  andThen (op8Write rd (loByte (xferOut s.cfg (s.f.get rs))) s) fun t => .next (t.advance 2#16)

/-- SWP.ff (R452): the two float registers exchanged. -/
def execSwpFf (rd : FReg) (rs : FReg) (s : State) : Res State :=
  .next ((s.setF ((s.f.set rd (s.f.get rs)).set rs (s.f.get rd))).advance 2#16)

/-- ADD.ff (R445): f[rd] <- fadd(f[rd], f[rs]). -/
def execAddFf (rd : FReg) (rs : FReg) (s : State) : Res State :=
  .next (float2 Config.fadd rd (s.f.get rs) 2#16 s)

/-- MUL.ff (R447): f[rd] <- fmul(f[rd], f[rs]). -/
def execMulFf (rd : FReg) (rs : FReg) (s : State) : Res State :=
  .next (float2 Config.fmul rd (s.f.get rs) 2#16 s)

/-- SUB.ff (R448): f[rd] <- fsub(f[rd], f[rs]). -/
def execSubFf (rd : FReg) (rs : FReg) (s : State) : Res State :=
  .next (float2 Config.fsub rd (s.f.get rs) 2#16 s)

/-- DIV.ff (R449): f[rd] <- fdiv(f[rd], f[rs]). -/
def execDivFf (rd : FReg) (rs : FReg) (s : State) : Res State :=
  .next (float2 Config.fdiv rd (s.f.get rs) 2#16 s)

/-- CMP.ff (R446): S, Z and V from fcmp(f[rd], f[rs]). -/
def execCmpFf (rd : FReg) (rs : FReg) (s : State) : Res State :=
  .next (compareFloat (s.f.get rd) (s.f.get rs) 2#16 s)

/-- MOD.ff (R450): f[rd] <- fmod(f[rd], f[rs]). -/
def execModFf (rd : FReg) (rs : FReg) (s : State) : Res State :=
  .next (float2 Config.fmod rd (s.f.get rs) 2#16 s)

/-- INV (R473): f[r] <- finv(f[r]). -/
def execInv (r : FReg) (s : State) : Res State :=
  .next (floatTo r (Config.finv (s.f.get r)) 2#16 s)

/-- SRT (R474): f[r] <- fsqrt(f[r]). -/
def execSrt (r : FReg) (s : State) : Res State :=
  .next (floatTo r (Config.fsqrt (s.f.get r)) 2#16 s)

/-- IRT (R475): f[r] <- firt(f[r]). -/
def execIrt (r : FReg) (s : State) : Res State :=
  .next (floatTo r (Config.firt (s.f.get r)) 2#16 s)

/-- SIN (R476): f[r] <- fsin(f[r]). -/
def execSin (r : FReg) (s : State) : Res State :=
  .next (floatTo r (Config.fsin (s.f.get r)) 2#16 s)

/-- COS (R477): f[r] <- fcos(f[r]). -/
def execCos (r : FReg) (s : State) : Res State :=
  .next (floatTo r (Config.fcos (s.f.get r)) 2#16 s)

/-- TAN (R478): f[r] <- ftan(f[r]). -/
def execTan (r : FReg) (s : State) : Res State :=
  .next (floatTo r (Config.ftan (s.f.get r)) 2#16 s)

/-- ABS (R479): f[r] <- fabs(f[r]). -/
def execAbs (r : FReg) (s : State) : Res State :=
  .next (floatTo r (Config.fabs (s.f.get r)) 2#16 s)

/-- NEG.f (R480): f[r] <- fneg(f[r]). -/
def execNegF (r : FReg) (s : State) : Res State :=
  .next (floatTo r (Config.fneg (s.f.get r)) 2#16 s)

/-- ADD.fk (R463): f[r] <- fadd(f[r], k). -/
def execAddFk (r : FReg) (k : Word) (s : State) : Res State :=
  .next (float2 Config.fadd r k 4#16 s)

/-- MUL.fk (R464): f[r] <- fmul(f[r], k). -/
def execMulFk (r : FReg) (k : Word) (s : State) : Res State :=
  .next (float2 Config.fmul r k 4#16 s)

/-- SUB.fk (R465): f[r] <- fsub(f[r], k). -/
def execSubFk (r : FReg) (k : Word) (s : State) : Res State :=
  .next (float2 Config.fsub r k 4#16 s)

/-- DIV.fk (R466): f[r] <- fdiv(f[r], k). -/
def execDivFk (r : FReg) (k : Word) (s : State) : Res State :=
  .next (float2 Config.fdiv r k 4#16 s)

/-- CMP.fk (R467): S, Z and V from fcmp(f[r], k). -/
def execCmpFk (r : FReg) (k : Word) (s : State) : Res State :=
  .next (compareFloat (s.f.get r) k 4#16 s)

/-- MOD.fk (R468): f[r] <- fmod(f[r], k). -/
def execModFk (r : FReg) (k : Word) (s : State) : Res State :=
  .next (float2 Config.fmod r k 4#16 s)

/-- POW.ff (R451): f[rd] <- fpow(f[rd], f[rs]). -/
def execPowFf (rd : FReg) (rs : FReg) (s : State) : Res State :=
  .next (float2 Config.fpow rd (s.f.get rs) 2#16 s)

/-- TRA.fK (R462): f[r] <- k, raw bits. -/
def execTraFk (r : FReg) (k : Word) (s : State) : Res State :=
  .next (floatTo r k 4#16 s)

/-- SWP.fK (R469): f[r] and the word at k exchanged. -/
def execSwpFk (r : FReg) (k : Word) (s : State) : Res State :=
  andThen (memRead16 k s) fun v => andThen (memWrite16 k (s.f.get r) s) fun t =>
    .next (floatTo r v 4#16 t)

end Sys2Proof.Machine
end

