-- ==== Sys2Proof/Machine/Jump.lean ====
section
/-! DEFINITION. Jump, subroutine and control instructions (spec/42_jump_control.md R280 to R322): none writes S, Z, V, P,
H or C (R280). -/
namespace Sys2Proof.Machine

/-- A relative jump of three bytes (R281 to R283, R286 to R291). -/
def jumpIf (taken : Bool) (k : Word) (s : State) : Res State :=
  if taken then .next (s.setPc (relTarget k s)) else .next (s.advance 3#16)

/-- What running BDS would do: the model has no answer (R322). DESIGN CHOICE, safe (notes/assumptions/14.md). -/
def bdsStops (_ : State) : Res State :=
  .refused .bdsHasNoSemantics

/-- NOP (R316): nothing but the pc changes. -/
def execNop (s : State) : Res State :=
  .next (s.advance 1#16)

/-- HLT (R317): status <- halted. -/
def execHlt (s : State) : Res State :=
  .next ((s.advance 1#16).setStatus .halted)

/-- JSC (R282): jump if flag.S is 0. -/
def execJsc (k : Word) (s : State) : Res State :=
  jumpIf (!s.flag.get .s) k s

/-- JZC (R282): jump if flag.Z is 0. -/
def execJzc (k : Word) (s : State) : Res State :=
  jumpIf (!s.flag.get .z) k s

/-- JVC (R282): jump if flag.V is 0. -/
def execJvc (k : Word) (s : State) : Res State :=
  jumpIf (!s.flag.get .v) k s

/-- JIC (R282): jump if flag.I is 0. -/
def execJic (k : Word) (s : State) : Res State :=
  jumpIf (!s.flag.get .i) k s

/-- JTC (R282): jump if flag.T is 0. -/
def execJtc (k : Word) (s : State) : Res State :=
  jumpIf (!s.flag.get .t) k s

/-- JPC (R282): jump if flag.P is 0. -/
def execJpc (k : Word) (s : State) : Res State :=
  jumpIf (!s.flag.get .p) k s

/-- JHC (R282): jump if flag.H is 0. -/
def execJhc (k : Word) (s : State) : Res State :=
  jumpIf (!s.flag.get .h) k s

/-- JCC (R282): jump if flag.C is 0. -/
def execJcc (k : Word) (s : State) : Res State :=
  jumpIf (!s.flag.get .c) k s

/-- JSS (R283): jump if flag.S is 1. -/
def execJss (k : Word) (s : State) : Res State :=
  jumpIf (s.flag.get .s) k s

/-- JZS (R283): jump if flag.Z is 1. -/
def execJzs (k : Word) (s : State) : Res State :=
  jumpIf (s.flag.get .z) k s

/-- JVS (R283): jump if flag.V is 1. -/
def execJvs (k : Word) (s : State) : Res State :=
  jumpIf (s.flag.get .v) k s

/-- JIS (R283): jump if flag.I is 1. -/
def execJis (k : Word) (s : State) : Res State :=
  jumpIf (s.flag.get .i) k s

/-- JTS (R283): jump if flag.T is 1. -/
def execJts (k : Word) (s : State) : Res State :=
  jumpIf (s.flag.get .t) k s

/-- JPS (R283): jump if flag.P is 1. -/
def execJps (k : Word) (s : State) : Res State :=
  jumpIf (s.flag.get .p) k s

/-- JHS (R283): jump if flag.H is 1. -/
def execJhs (k : Word) (s : State) : Res State :=
  jumpIf (s.flag.get .h) k s

/-- JCS (R283): jump if flag.C is 1. -/
def execJcs (k : Word) (s : State) : Res State :=
  jumpIf (s.flag.get .c) k s

/-- JMP (R284): pc <- k. -/
def execJmp (k : Word) (s : State) : Res State :=
  .next (s.setPc k)

/-- JMM (R285): pc <- HL, or the word at HL with `JMM_INDIRECT`. -/
def execJmm (s : State) : Res State :=
  andThen (targetM s) fun v => .next (s.setPc v)

/-- JNE (R286): jump if Z = 0. -/
def execJne (k : Word) (s : State) : Res State :=
  jumpIf (!s.flag.isEq) k s

/-- JEQ (R287): jump if Z = 1. -/
def execJeq (k : Word) (s : State) : Res State :=
  jumpIf s.flag.isEq k s

/-- JLT (R288): jump if S != V. -/
def execJlt (k : Word) (s : State) : Res State :=
  jumpIf s.flag.isLt k s

/-- JLE (R289): jump if Z = 1 or S != V. -/
def execJle (k : Word) (s : State) : Res State :=
  jumpIf s.flag.isLe k s

/-- JGT (R290): jump if Z = 0 and S = V. -/
def execJgt (k : Word) (s : State) : Res State :=
  jumpIf (!s.flag.isLe) k s

/-- JGE (R291): jump if S = V. -/
def execJge (k : Word) (s : State) : Res State :=
  jumpIf (!s.flag.isLt) k s

/-- JSR (R310): the address of the next instruction is pushed; pc <- k. -/
def execJsr (k : Word) (s : State) : Res State :=
  andThen (push16 (s.pc + 3#16) s) fun t => .next (t.setPc k)

/-- JSM (R311): the target is read before the push. -/
def execJsm (s : State) : Res State :=
  andThen (targetM s) fun v => andThen (push16 (s.pc + 1#16) s) fun t => .next (t.setPc v)

/-- RET (R312): pc <- the word pulled. -/
def execRet (s : State) : Res State :=
  andThen (pull16 s) fun p => .next (p.2.setPc p.1)

/-- RFI (R314): pc <- the word pulled; flag.I <- 1. -/
def execRfi (s : State) : Res State :=
  returnFromTrap s

/-- IRQ (R318): with I = 1 the trap is taken; with I = 0 the request is discarded (R495). -/
def execIrq (s : State) : Res State :=
  if s.flag.i then trap .irq s else .next (s.advance 1#16)

/-- NMI (R319): the trap is taken whatever I is. -/
def execNmi (s : State) : Res State :=
  trap .nmi s

/-- WFI (R320): status <- waiting; `step` leaves it when an external request is taken. -/
def execWfi (s : State) : Res State :=
  .next ((s.advance 1#16).setStatus .waiting)

/-- TRP (R321): an unconditional trap; T is neither read nor written. -/
def execTrp (s : State) : Res State :=
  trap .trp s

/-- BDS (R322): the source names it, and the spec gives it no encoding and no semantics; no decoder produces it. -/
def execBds (s : State) : Res State :=
  bdsStops s

end Sys2Proof.Machine
end

