-- ==== Sys2Proof/Machine/Move8.lean ====
section
/-! DEFINITION. 8-bit flag, transfer, swap, stack and load/store instructions (spec/41_move8.md R220 to R234): none
writes S, Z, V, P, H or C (R232). -/
namespace Sys2Proof.Machine

/-- `flag.T <- v` (R222, R223). -/
def State.setT (s : State) (v : Bool) : State := s.setFlag { s.flag with t := v }

/-- SWr (R224): the operand is read, A is written to it, and then A takes what was read. -/
def swapA (r : Reg8) (s : State) : Res State :=
  andThen (op8Read r s) fun v => andThen (op8Write r s.a s) fun t => .next ((t.setA v).advance 1#16)

/-- TrA (R226). -/
def loadA (r : Reg8) (s : State) : Res State :=
  andThen (op8Read r s) fun v => .next ((s.setA v).advance 1#16)

/-- TAr (R227). -/
def storeA (r : Reg8) (s : State) : Res State :=
  andThen (op8Write r s.a s) fun t => .next (t.advance 1#16)

/-- PLr (R228): the byte is pulled, SP and all, before the operand is written. -/
def pullReg8 (r : Reg8) (s : State) : Res State :=
  andThen (pull8 s) fun p => andThen (op8Write r p.1 p.2) fun t => .next (t.advance 1#16)

/-- PHr (R229): the operand is read before SP moves. -/
def pushReg8 (r : Reg8) (s : State) : Res State :=
  andThen (op8Read r s) fun v => andThen (push8 v s) fun t => .next (t.advance 1#16)

/-- SFI (R220): flag.I <- 1. -/
def execSfi (s : State) : Res State :=
  .next ((s.setI true).advance 1#16)

/-- CFI (R221): flag.I <- 0. -/
def execCfi (s : State) : Res State :=
  .next ((s.setI false).advance 1#16)

/-- SFT (R222): flag.T <- 1. -/
def execSft (s : State) : Res State :=
  .next ((s.setT true).advance 1#16)

/-- CFT (R223): flag.T <- 0. -/
def execCft (s : State) : Res State :=
  .next ((s.setT false).advance 1#16)

/-- SWH (R224): A and H exchanged. -/
def execSwh (s : State) : Res State :=
  swapA .h s

/-- SWL (R224): A and L exchanged. -/
def execSwl (s : State) : Res State :=
  swapA .l s

/-- SWB (R224): A and B exchanged. -/
def execSwb (s : State) : Res State :=
  swapA .b s

/-- SWC (R224): A and C exchanged. -/
def execSwc (s : State) : Res State :=
  swapA .c s

/-- SWD (R224): A and D exchanged. -/
def execSwd (s : State) : Res State :=
  swapA .d s

/-- SWE (R224): A and E exchanged. -/
def execSwe (s : State) : Res State :=
  swapA .e s

/-- SWM (R224): A and the byte at HL exchanged. -/
def execSwm (s : State) : Res State :=
  swapA .m s

/-- LDA (R230): A <- the byte at k. -/
def execLda (k : Word) (s : State) : Res State :=
  andThen (memRead8 k s) fun v => .next ((s.setA v).advance 3#16)

/-- STA (R231): the byte at k <- A. -/
def execSta (k : Word) (s : State) : Res State :=
  andThen (memWrite8 k s.a s) fun t => .next (t.advance 3#16)

/-- TRI (R225): A <- k. -/
def execTri (k : Byte) (s : State) : Res State :=
  .next ((s.setA k).advance 2#16)

/-- THA (R226): A <- H. -/
def execTha (s : State) : Res State :=
  loadA .h s

/-- TLA (R226): A <- L. -/
def execTla (s : State) : Res State :=
  loadA .l s

/-- TBA (R226): A <- B. -/
def execTba (s : State) : Res State :=
  loadA .b s

/-- TCA (R226): A <- C. -/
def execTca (s : State) : Res State :=
  loadA .c s

/-- TDA (R226): A <- D. -/
def execTda (s : State) : Res State :=
  loadA .d s

/-- TEA (R226): A <- E. -/
def execTea (s : State) : Res State :=
  loadA .e s

/-- TMA (R226): A <- the byte at HL. -/
def execTma (s : State) : Res State :=
  loadA .m s

/-- TAH (R227): H <- A. -/
def execTah (s : State) : Res State :=
  storeA .h s

/-- TAL (R227): L <- A. -/
def execTal (s : State) : Res State :=
  storeA .l s

/-- TAB (R227): B <- A. -/
def execTab (s : State) : Res State :=
  storeA .b s

/-- TAC (R227): C <- A. -/
def execTac (s : State) : Res State :=
  storeA .c s

/-- TAD (R227): D <- A. -/
def execTad (s : State) : Res State :=
  storeA .d s

/-- TAE (R227): E <- A. -/
def execTae (s : State) : Res State :=
  storeA .e s

/-- TAM (R227): the byte at HL <- A. -/
def execTam (s : State) : Res State :=
  storeA .m s

/-- PLA (R228): A <- the byte pulled. -/
def execPla (s : State) : Res State :=
  pullReg8 .a s

/-- PLH (R228): H <- the byte pulled. -/
def execPlh (s : State) : Res State :=
  pullReg8 .h s

/-- PLL (R228): L <- the byte pulled. -/
def execPll (s : State) : Res State :=
  pullReg8 .l s

/-- PLB (R228): B <- the byte pulled. -/
def execPlb (s : State) : Res State :=
  pullReg8 .b s

/-- PLC (R228): C <- the byte pulled. -/
def execPlc (s : State) : Res State :=
  pullReg8 .c s

/-- PLD (R228): D <- the byte pulled. -/
def execPld (s : State) : Res State :=
  pullReg8 .d s

/-- PLE (R228): E <- the byte pulled. -/
def execPle (s : State) : Res State :=
  pullReg8 .e s

/-- PLM (R228): the byte at HL <- the byte pulled. HL is unchanged and SP is incremented before the write. -/
def execPlm (s : State) : Res State :=
  pullReg8 .m s

/-- PHA (R229): A is pushed. -/
def execPha (s : State) : Res State :=
  pushReg8 .a s

/-- PHH (R229): H is pushed. -/
def execPhh (s : State) : Res State :=
  pushReg8 .h s

/-- PHL (R229): L is pushed. -/
def execPhl (s : State) : Res State :=
  pushReg8 .l s

/-- PHB (R229): B is pushed. -/
def execPhb (s : State) : Res State :=
  pushReg8 .b s

/-- PHC (R229): C is pushed. -/
def execPhc (s : State) : Res State :=
  pushReg8 .c s

/-- PHD (R229): D is pushed. -/
def execPhd (s : State) : Res State :=
  pushReg8 .d s

/-- PHE (R229): E is pushed. -/
def execPhe (s : State) : Res State :=
  pushReg8 .e s

/-- PHM (R229): the byte at HL is pushed. -/
def execPhm (s : State) : Res State :=
  pushReg8 .m s

end Sys2Proof.Machine
end

