-- ==== Sys2Proof/Machine/Word16.lean ====
section
/-! DEFINITION. 16-bit instructions (spec/43_word16.md R340 to R397). Every instruction reads all its sources before it
writes (R344). -/
namespace Sys2Proof.Machine

/-- A two-operand operation that stores to its first operand (R344): 2 bytes with a register, 4 with a constant. -/
def word2 (op : Op2 16) (rd : Reg16) (b : Word) (length : Word) (s : State) : State :=
  ((s.setX (s.x.set rd (op (s.x.get rd) b s.flag).1)).setFlag (op (s.x.get rd) b s.flag).2).advance length

/-- A 16-bit compare (R349, R384): the flags of a - b, and no register is written. -/
def compare16 (a b : Word) (length : Word) (s : State) : State :=
  (s.setFlag (opSub a b s.flag).2).advance length

/-- An operation on one register, two bytes (R360 to R365). -/
def word1 (op : Op1 16) (r : Reg16) (s : State) : State :=
  ((s.setX (s.x.set r (op (s.x.get r) s.flag).1)).setFlag (op (s.x.get r) s.flag).2).advance 2#16

/-- DIV and MOD (R392 to R396): a zero divisor is the fault `DivideByZero`, with nothing changed. -/
def divide (op : Bool → Op2 16) (rd : Reg16) (b : Word) (length : Word) (s : State) : Res State :=
  if b = 0#16 then .fault (.divideByZero s.pc) else .next (word2 (op s.cfg.divSigned) rd b length s)

/-- LrK (R370): x[r] <- the word at k. -/
def execLrK (r : Reg16) (k : Word) (s : State) : Res State :=
  andThen (memRead16 k s) fun v => .next ((s.setX (s.x.set r v)).advance 4#16)

/-- SrK (R371): the word at k <- x[r]. -/
def execSrK (r : Reg16) (k : Word) (s : State) : Res State :=
  andThen (memWrite16 k (s.x.get r) s) fun t => .next (t.advance 4#16)

/-- PSH.r (R366): x[r] is pushed. -/
def execPshR (r : Reg16) (s : State) : Res State :=
  andThen (push16 (s.x.get r) s) fun t => .next (t.advance 2#16)

/-- PUL.r (R367): x[r] <- the word pulled. -/
def execPulR (r : Reg16) (s : State) : Res State :=
  andThen (pull16 s) fun p => .next ((p.2.setX (p.2.x.set r p.1)).advance 2#16)

/-- TRR (R341): x[rd] <- x[rs]. -/
def execTRR (rd : Reg16) (rs : Reg16) (s : State) : Res State :=
  .next ((s.setX (s.x.set rd (s.x.get rs))).advance 2#16)

/-- TrR (R342): x[rd] <- the byte, its upper half by `TRA8_HIGH`. -/
def execTrR (rd : Reg16) (rs : Reg8) (s : State) : Res State :=
  andThen (op8Read rs s) fun v =>
    .next ((s.setX (s.x.set rd (widen s.cfg.tra8High (s.x.get rd) v))).advance 2#16)

/-- TRr (R343): the 8-bit operand <- x[rs][7:0]. -/
def execTRr (rd : Reg8) (rs : Reg16) (s : State) : Res State :=
  andThen (op8Write rd (loByte (s.x.get rs)) s) fun t => .next (t.advance 2#16)

/-- SWP.rr (R368): the two registers exchanged. -/
def execSwpRr (rd : Reg16) (rs : Reg16) (s : State) : Res State :=
  .next ((s.setX ((s.x.set rd (s.x.get rs)).set rs (s.x.get rd))).advance 2#16)

/-- ADD.rr (R345): x[rd] <- x[rd] + x[rs]. -/
def execAddRr (rd : Reg16) (rs : Reg16) (s : State) : Res State :=
  .next (word2 opAdd rd (s.x.get rs) 2#16 s)

/-- ADC.rr (R346): x[rd] <- x[rd] + x[rs] + C. -/
def execAdcRr (rd : Reg16) (rs : Reg16) (s : State) : Res State :=
  .next (word2 opAdc rd (s.x.get rs) 2#16 s)

/-- SUB.rr (R347): x[rd] <- x[rd] - x[rs]. -/
def execSubRr (rd : Reg16) (rs : Reg16) (s : State) : Res State :=
  .next (word2 opSub rd (s.x.get rs) 2#16 s)

/-- SBC.rr (R348): x[rd] <- x[rd] - x[rs] - C. -/
def execSbcRr (rd : Reg16) (rs : Reg16) (s : State) : Res State :=
  .next (word2 opSbc rd (s.x.get rs) 2#16 s)

/-- CMP.rr (R349): compare x[rd] with x[rs]; no register is written. -/
def execCmpRr (rd : Reg16) (rs : Reg16) (s : State) : Res State :=
  .next (compare16 (s.x.get rd) (s.x.get rs) 2#16 s)

/-- AND.rr (R350): x[rd] <- x[rd] and x[rs]. -/
def execAndRr (rd : Reg16) (rs : Reg16) (s : State) : Res State :=
  .next (word2 opAnd rd (s.x.get rs) 2#16 s)

/-- ORR.rr (R351): x[rd] <- x[rd] or x[rs]. -/
def execOrrRr (rd : Reg16) (rs : Reg16) (s : State) : Res State :=
  .next (word2 opOrr rd (s.x.get rs) 2#16 s)

/-- XOR.rr (R352): x[rd] <- x[rd] xor x[rs]. -/
def execXorRr (rd : Reg16) (rs : Reg16) (s : State) : Res State :=
  .next (word2 opXor rd (s.x.get rs) 2#16 s)

/-- ASL.r (R360): x[r] one place left, the bit moved out to C. -/
def execAslR (r : Reg16) (s : State) : Res State :=
  .next (word1 opAsl r s)

/-- ASR.r (R361): x[r] one place right, the sign kept, the bit moved out to C. -/
def execAsrR (r : Reg16) (s : State) : Res State :=
  .next (word1 opAsr r s)

/-- ROL.r (R362): x[r] rotated one place left. -/
def execRolR (r : Reg16) (s : State) : Res State :=
  .next (word1 (opRol s.cfg.rotateThroughCarry) r s)

/-- ROR.r (R363): x[r] rotated one place right. -/
def execRorR (r : Reg16) (s : State) : Res State :=
  .next (word1 (opRor s.cfg.rotateThroughCarry) r s)

/-- COM.r (R364): x[r] every bit inverted. -/
def execComR (r : Reg16) (s : State) : Res State :=
  .next (word1 opCom r s)

/-- NEG.r (R365): x[r] <- 0 - x[r]. -/
def execNegR (r : Reg16) (s : State) : Res State :=
  .next (word1 opNeg r s)

/-- ADD.rk (R380): x[r] <- x[r] + k. -/
def execAddRk (r : Reg16) (k : Word) (s : State) : Res State :=
  .next (word2 opAdd r k 4#16 s)

/-- ADC.rk (R381): x[r] <- x[r] + k + C. -/
def execAdcRk (r : Reg16) (k : Word) (s : State) : Res State :=
  .next (word2 opAdc r k 4#16 s)

/-- SUB.rk (R382): x[r] <- x[r] - k. -/
def execSubRk (r : Reg16) (k : Word) (s : State) : Res State :=
  .next (word2 opSub r k 4#16 s)

/-- SBC.rk (R383): x[r] <- x[r] - k - C. -/
def execSbcRk (r : Reg16) (k : Word) (s : State) : Res State :=
  .next (word2 opSbc r k 4#16 s)

/-- CMP.rk (R384): compare x[r] with k; no register is written. -/
def execCmpRk (r : Reg16) (k : Word) (s : State) : Res State :=
  .next (compare16 (s.x.get r) k 4#16 s)

/-- AND.rk (R385): x[r] <- x[r] and k. -/
def execAndRk (r : Reg16) (k : Word) (s : State) : Res State :=
  .next (word2 opAnd r k 4#16 s)

/-- ORR.rk (R386): x[r] <- x[r] or k. -/
def execOrrRk (r : Reg16) (k : Word) (s : State) : Res State :=
  .next (word2 opOrr r k 4#16 s)

/-- XOR.rk (R387): x[r] <- x[r] xor k. -/
def execXorRk (r : Reg16) (k : Word) (s : State) : Res State :=
  .next (word2 opXor r k 4#16 s)

/-- MUL.rr (R390): x[rd] <- the low half of x[rd] * x[rs]. -/
def execMulRr (rd : Reg16) (rs : Reg16) (s : State) : Res State :=
  .next (word2 opMul rd (s.x.get rs) 2#16 s)

/-- MUK (R391): x[r] <- the low half of x[r] * k. -/
def execMuk (r : Reg16) (k : Word) (s : State) : Res State :=
  .next (word2 opMul r k 4#16 s)

/-- DIV.rr (R392): x[rd] <- x[rd] / x[rs]; a zero divisor is the fault `DivideByZero`. -/
def execDivRr (rd : Reg16) (rs : Reg16) (s : State) : Res State :=
  divide opDiv rd (s.x.get rs) 2#16 s

/-- DIK (R393): x[r] <- x[r] / k; a zero divisor is the fault `DivideByZero`. -/
def execDik (r : Reg16) (k : Word) (s : State) : Res State :=
  divide opDiv r k 4#16 s

/-- MOD.rr (R394): x[rd] <- x[rd] mod x[rs]; a zero divisor is the fault `DivideByZero`. -/
def execModRr (rd : Reg16) (rs : Reg16) (s : State) : Res State :=
  divide opMod rd (s.x.get rs) 2#16 s

/-- MOK (R395): x[r] <- x[r] mod k; a zero divisor is the fault `DivideByZero`. -/
def execMok (r : Reg16) (k : Word) (s : State) : Res State :=
  divide opMod r k 4#16 s

/-- TPC (R340): HL <- the address of this instruction. -/
def execTpc (s : State) : Res State :=
  .next ((s.setX (s.x.set .r0 s.pc)).advance 1#16)

/-- STM.Mr (R372): the word at HL <- x[r]. -/
def execStmMr (r : Reg16) (s : State) : Res State :=
  andThen (memWrite16 s.hl (s.x.get r) s) fun t => .next (t.advance 2#16)

/-- LDM.rM (R373): x[r] <- the word at HL, the address taken before the write. -/
def execLdmRm (r : Reg16) (s : State) : Res State :=
  andThen (memRead16 s.hl s) fun v => .next ((s.setX (s.x.set r v)).advance 2#16)

/-- TRA.rK (R374): x[r] <- k. -/
def execTraRk (r : Reg16) (k : Word) (s : State) : Res State :=
  .next ((s.setX (s.x.set r k)).advance 4#16)

end Sys2Proof.Machine
end

