-- ==== Sys2Proof/Machine/Dispatch.lean ====
section
/-! DEFINITION. The dispatch of an instruction to its meaning, in the order of spec/opcode_table.json. -/
namespace Sys2Proof.Machine

def exec (i : Instr) (s : State) : Host.Outcome State Fault Refusal :=
  match i with
  | .nop => Sys2Proof.Machine.execNop s
  | .hlt => Sys2Proof.Machine.execHlt s
  | .sfi => Sys2Proof.Machine.execSfi s
  | .cfi => Sys2Proof.Machine.execCfi s
  | .sft => Sys2Proof.Machine.execSft s
  | .cft => Sys2Proof.Machine.execCft s
  | .exr => Sys2Proof.Machine.execExr s
  | .swh => Sys2Proof.Machine.execSwh s
  | .swl => Sys2Proof.Machine.execSwl s
  | .swb => Sys2Proof.Machine.execSwb s
  | .swc => Sys2Proof.Machine.execSwc s
  | .swd => Sys2Proof.Machine.execSwd s
  | .swe => Sys2Proof.Machine.execSwe s
  | .swm => Sys2Proof.Machine.execSwm s
  | .lda k => Sys2Proof.Machine.execLda k s
  | .sta k => Sys2Proof.Machine.execSta k s
  | .tri k => Sys2Proof.Machine.execTri k s
  | .tha => Sys2Proof.Machine.execTha s
  | .tla => Sys2Proof.Machine.execTla s
  | .tba => Sys2Proof.Machine.execTba s
  | .tca => Sys2Proof.Machine.execTca s
  | .tda => Sys2Proof.Machine.execTda s
  | .tea => Sys2Proof.Machine.execTea s
  | .tma => Sys2Proof.Machine.execTma s
  | .tah => Sys2Proof.Machine.execTah s
  | .tal => Sys2Proof.Machine.execTal s
  | .tab => Sys2Proof.Machine.execTab s
  | .tac => Sys2Proof.Machine.execTac s
  | .tad => Sys2Proof.Machine.execTad s
  | .tae => Sys2Proof.Machine.execTae s
  | .tam => Sys2Proof.Machine.execTam s
  | .pla => Sys2Proof.Machine.execPla s
  | .plh => Sys2Proof.Machine.execPlh s
  | .pll => Sys2Proof.Machine.execPll s
  | .plb => Sys2Proof.Machine.execPlb s
  | .plc => Sys2Proof.Machine.execPlc s
  | .pld => Sys2Proof.Machine.execPld s
  | .ple => Sys2Proof.Machine.execPle s
  | .plm => Sys2Proof.Machine.execPlm s
  | .pha => Sys2Proof.Machine.execPha s
  | .phh => Sys2Proof.Machine.execPhh s
  | .phl => Sys2Proof.Machine.execPhl s
  | .phb => Sys2Proof.Machine.execPhb s
  | .phc => Sys2Proof.Machine.execPhc s
  | .phd => Sys2Proof.Machine.execPhd s
  | .phe => Sys2Proof.Machine.execPhe s
  | .phm => Sys2Proof.Machine.execPhm s
  | .lrK r k => Sys2Proof.Machine.execLrK r k s
  | .srK r k => Sys2Proof.Machine.execSrK r k s
  | .pshR r => Sys2Proof.Machine.execPshR r s
  | .pulR r => Sys2Proof.Machine.execPulR r s
  | .lfk r k => Sys2Proof.Machine.execLfk r k s
  | .sfk r k => Sys2Proof.Machine.execSfk r k s
  | .pshF r => Sys2Proof.Machine.execPshF r s
  | .pulF r => Sys2Proof.Machine.execPulF r s
  | .tRR rd rs => Sys2Proof.Machine.execTRR rd rs s
  | .trR rd rs => Sys2Proof.Machine.execTrR rd rs s
  | .tRr rd rs => Sys2Proof.Machine.execTRr rd rs s
  | .tFF rd rs => Sys2Proof.Machine.execTFF rd rs s
  | .tRF rd rs => Sys2Proof.Machine.execTRF rd rs s
  | .tFR rd rs => Sys2Proof.Machine.execTFR rd rs s
  | .trF rd rs => Sys2Proof.Machine.execTrF rd rs s
  | .tFr rd rs => Sys2Proof.Machine.execTFr rd rs s
  | .swpRr rd rs => Sys2Proof.Machine.execSwpRr rd rs s
  | .swpFf rd rs => Sys2Proof.Machine.execSwpFf rd rs s
  | .jsc k => Sys2Proof.Machine.execJsc k s
  | .jzc k => Sys2Proof.Machine.execJzc k s
  | .jvc k => Sys2Proof.Machine.execJvc k s
  | .jic k => Sys2Proof.Machine.execJic k s
  | .jtc k => Sys2Proof.Machine.execJtc k s
  | .jpc k => Sys2Proof.Machine.execJpc k s
  | .jhc k => Sys2Proof.Machine.execJhc k s
  | .jcc k => Sys2Proof.Machine.execJcc k s
  | .jss k => Sys2Proof.Machine.execJss k s
  | .jzs k => Sys2Proof.Machine.execJzs k s
  | .jvs k => Sys2Proof.Machine.execJvs k s
  | .jis k => Sys2Proof.Machine.execJis k s
  | .jts k => Sys2Proof.Machine.execJts k s
  | .jps k => Sys2Proof.Machine.execJps k s
  | .jhs k => Sys2Proof.Machine.execJhs k s
  | .jcs k => Sys2Proof.Machine.execJcs k s
  | .jmp k => Sys2Proof.Machine.execJmp k s
  | .jmm => Sys2Proof.Machine.execJmm s
  | .jne k => Sys2Proof.Machine.execJne k s
  | .jeq k => Sys2Proof.Machine.execJeq k s
  | .jlt k => Sys2Proof.Machine.execJlt k s
  | .jle k => Sys2Proof.Machine.execJle k s
  | .jgt k => Sys2Proof.Machine.execJgt k s
  | .jge k => Sys2Proof.Machine.execJge k s
  | .jsr k => Sys2Proof.Machine.execJsr k s
  | .jsm => Sys2Proof.Machine.execJsm s
  | .ret => Sys2Proof.Machine.execRet s
  | .rfi => Sys2Proof.Machine.execRfi s
  | .irq => Sys2Proof.Machine.execIrq s
  | .nmi => Sys2Proof.Machine.execNmi s
  | .wfi => Sys2Proof.Machine.execWfi s
  | .adi k => Sys2Proof.Machine.execAdi k s
  | .adh => Sys2Proof.Machine.execAdh s
  | .adl => Sys2Proof.Machine.execAdl s
  | .adb => Sys2Proof.Machine.execAdb s
  | .adc => Sys2Proof.Machine.execAdc s
  | .add => Sys2Proof.Machine.execAdd s
  | .ade => Sys2Proof.Machine.execAde s
  | .adm => Sys2Proof.Machine.execAdm s
  | .aci k => Sys2Proof.Machine.execAci k s
  | .ach => Sys2Proof.Machine.execAch s
  | .acl => Sys2Proof.Machine.execAcl s
  | .acb => Sys2Proof.Machine.execAcb s
  | .acc => Sys2Proof.Machine.execAcc s
  | .acd => Sys2Proof.Machine.execAcd s
  | .ace => Sys2Proof.Machine.execAce s
  | .acm => Sys2Proof.Machine.execAcm s
  | .sui k => Sys2Proof.Machine.execSui k s
  | .suh => Sys2Proof.Machine.execSuh s
  | .sul => Sys2Proof.Machine.execSul s
  | .sub => Sys2Proof.Machine.execSub s
  | .suc => Sys2Proof.Machine.execSuc s
  | .sud => Sys2Proof.Machine.execSud s
  | .sue => Sys2Proof.Machine.execSue s
  | .sum => Sys2Proof.Machine.execSum s
  | .sci k => Sys2Proof.Machine.execSci k s
  | .sch => Sys2Proof.Machine.execSch s
  | .scl => Sys2Proof.Machine.execScl s
  | .scb => Sys2Proof.Machine.execScb s
  | .scc => Sys2Proof.Machine.execScc s
  | .scd => Sys2Proof.Machine.execScd s
  | .sce => Sys2Proof.Machine.execSce s
  | .scm => Sys2Proof.Machine.execScm s
  | .cpi k => Sys2Proof.Machine.execCpi k s
  | .cph => Sys2Proof.Machine.execCph s
  | .cpl => Sys2Proof.Machine.execCpl s
  | .cpb => Sys2Proof.Machine.execCpb s
  | .cpc => Sys2Proof.Machine.execCpc s
  | .cpd => Sys2Proof.Machine.execCpd s
  | .cpe => Sys2Proof.Machine.execCpe s
  | .cpm => Sys2Proof.Machine.execCpm s
  | .ani k => Sys2Proof.Machine.execAni k s
  | .anh => Sys2Proof.Machine.execAnh s
  | .anl => Sys2Proof.Machine.execAnl s
  | .anb => Sys2Proof.Machine.execAnb s
  | .anc => Sys2Proof.Machine.execAnc s
  | .and => Sys2Proof.Machine.execAnd s
  | .ane => Sys2Proof.Machine.execAne s
  | .anm => Sys2Proof.Machine.execAnm s
  | .ori k => Sys2Proof.Machine.execOri k s
  | .orh => Sys2Proof.Machine.execOrh s
  | .orl => Sys2Proof.Machine.execOrl s
  | .orb => Sys2Proof.Machine.execOrb s
  | .orc => Sys2Proof.Machine.execOrc s
  | .ord => Sys2Proof.Machine.execOrd s
  | .ore => Sys2Proof.Machine.execOre s
  | .orm => Sys2Proof.Machine.execOrm s
  | .xri k => Sys2Proof.Machine.execXri k s
  | .xrh => Sys2Proof.Machine.execXrh s
  | .xrl => Sys2Proof.Machine.execXrl s
  | .xrb => Sys2Proof.Machine.execXrb s
  | .xrc => Sys2Proof.Machine.execXrc s
  | .xrd => Sys2Proof.Machine.execXrd s
  | .xre => Sys2Proof.Machine.execXre s
  | .xrm => Sys2Proof.Machine.execXrm s
  | .asl => Sys2Proof.Machine.execAsl s
  | .asr => Sys2Proof.Machine.execAsr s
  | .rol => Sys2Proof.Machine.execRol s
  | .ror => Sys2Proof.Machine.execRor s
  | .com => Sys2Proof.Machine.execCom s
  | .neg => Sys2Proof.Machine.execNeg s
  | .addRr rd rs => Sys2Proof.Machine.execAddRr rd rs s
  | .adcRr rd rs => Sys2Proof.Machine.execAdcRr rd rs s
  | .subRr rd rs => Sys2Proof.Machine.execSubRr rd rs s
  | .sbcRr rd rs => Sys2Proof.Machine.execSbcRr rd rs s
  | .cmpRr rd rs => Sys2Proof.Machine.execCmpRr rd rs s
  | .andRr rd rs => Sys2Proof.Machine.execAndRr rd rs s
  | .orrRr rd rs => Sys2Proof.Machine.execOrrRr rd rs s
  | .xorRr rd rs => Sys2Proof.Machine.execXorRr rd rs s
  | .aslR r => Sys2Proof.Machine.execAslR r s
  | .asrR r => Sys2Proof.Machine.execAsrR r s
  | .rolR r => Sys2Proof.Machine.execRolR r s
  | .rorR r => Sys2Proof.Machine.execRorR r s
  | .comR r => Sys2Proof.Machine.execComR r s
  | .negR r => Sys2Proof.Machine.execNegR r s
  | .addRk r k => Sys2Proof.Machine.execAddRk r k s
  | .adcRk r k => Sys2Proof.Machine.execAdcRk r k s
  | .subRk r k => Sys2Proof.Machine.execSubRk r k s
  | .sbcRk r k => Sys2Proof.Machine.execSbcRk r k s
  | .cmpRk r k => Sys2Proof.Machine.execCmpRk r k s
  | .andRk r k => Sys2Proof.Machine.execAndRk r k s
  | .orrRk r k => Sys2Proof.Machine.execOrrRk r k s
  | .xorRk r k => Sys2Proof.Machine.execXorRk r k s
  | .mulRr rd rs => Sys2Proof.Machine.execMulRr rd rs s
  | .muk r k => Sys2Proof.Machine.execMuk r k s
  | .divRr rd rs => Sys2Proof.Machine.execDivRr rd rs s
  | .dik r k => Sys2Proof.Machine.execDik r k s
  | .modRr rd rs => Sys2Proof.Machine.execModRr rd rs s
  | .mok r k => Sys2Proof.Machine.execMok r k s
  | .addFf rd rs => Sys2Proof.Machine.execAddFf rd rs s
  | .mulFf rd rs => Sys2Proof.Machine.execMulFf rd rs s
  | .subFf rd rs => Sys2Proof.Machine.execSubFf rd rs s
  | .divFf rd rs => Sys2Proof.Machine.execDivFf rd rs s
  | .cmpFf rd rs => Sys2Proof.Machine.execCmpFf rd rs s
  | .modFf rd rs => Sys2Proof.Machine.execModFf rd rs s
  | .inv r => Sys2Proof.Machine.execInv r s
  | .srt r => Sys2Proof.Machine.execSrt r s
  | .irt r => Sys2Proof.Machine.execIrt r s
  | .sin r => Sys2Proof.Machine.execSin r s
  | .cos r => Sys2Proof.Machine.execCos r s
  | .tan r => Sys2Proof.Machine.execTan r s
  | .abs r => Sys2Proof.Machine.execAbs r s
  | .negF r => Sys2Proof.Machine.execNegF r s
  | .addFk r k => Sys2Proof.Machine.execAddFk r k s
  | .mulFk r k => Sys2Proof.Machine.execMulFk r k s
  | .subFk r k => Sys2Proof.Machine.execSubFk r k s
  | .divFk r k => Sys2Proof.Machine.execDivFk r k s
  | .cmpFk r k => Sys2Proof.Machine.execCmpFk r k s
  | .modFk r k => Sys2Proof.Machine.execModFk r k s
  | .powFf rd rs => Sys2Proof.Machine.execPowFf rd rs s
  | .trp => Sys2Proof.Machine.execTrp s
  | .tpc => Sys2Proof.Machine.execTpc s
  | .exf => Sys2Proof.Machine.execExf s
  | .stmMr r => Sys2Proof.Machine.execStmMr r s
  | .ldmRm r => Sys2Proof.Machine.execLdmRm r s
  | .traRk r k => Sys2Proof.Machine.execTraRk r k s
  | .traFk r k => Sys2Proof.Machine.execTraFk r k s
  | .swpFk r k => Sys2Proof.Machine.execSwpFk r k s
  | .bds => Sys2Proof.Machine.execBds s

end Sys2Proof.Machine
end

