-- ==== Sys2Proof/Machine/Events.lean ====
section
/-! DEFINITION. External requests at an instruction boundary (spec/60_exceptions.md R496 to R499): the stream of R497
asked for the offer of a boundary, and what of it is taken. -/
namespace Sys2Proof.Machine

/-- What is offered at this boundary (R497). -/
def EventStream.head (e : EventStream) : Offer :=
  match e with
  | .offer now _ => now
  | .cycle [] => .quiet
  | .cycle (o :: _) => o
  | .oracle n => Config.extEvents n

/-- The stream from the next boundary on (R497). -/
def EventStream.tail (e : EventStream) : EventStream :=
  match e with
  | .offer _ later => later
  | .cycle [] => .cycle []
  | .cycle (o :: rest) => .cycle (rest ++ [o])
  | .oracle n => .oracle (n + 1)

/-- The stream after `n` more boundaries. -/
def EventStream.drop (e : EventStream) (n : Nat) : EventStream :=
  match n with
  | 0 => e
  | k + 1 => e.tail.drop k

/-- The request of an offer that is taken, if any (R496): a non-maskable one always and first, a maskable one when I
is 1. -/
def requestTaken (o : Offer) (i : Bool) : Option TrapKind :=
  if o.nmi then some .extNmi else if o.irq && i then some .extIrq else none

/-- The external request taken at this boundary, if any (R496). -/
def takenRequest (s : State) : Option TrapKind := requestTaken s.events.head s.flag.i

/-- The boundary is passed: what was offered there is taken or discarded, and not remembered (R496). -/
def passBoundary (s : State) : State := s.setEvents s.events.tail

end Sys2Proof.Machine
end

