-- ==== Sys2Proof/WellFormed.lean ====
section
/-! DEFINITION. When an instruction exists: the variant has it and it has an encoding (spec/30_encoding.md R145, R146). -/
namespace Sys2Proof

/-- The smallest variant that has the instruction (R131's column, R145). TPC follows R145. BDS belongs to no variant (R322;
DEDUCED, safe: notes/assumptions/15.md):
`Instr.encodable` refuses it. -/
def Instr.firstVariant (i : Instr) : Variant :=
  match i with
    | .nop | .hlt | .sfi | .cfi | .sft | .cft | .exr | .swh | .swl | .swm | .lda _ | .sta _ | .tri _ | .tha | .tla
    | .tma | .tah | .tal | .tam | .pla | .plh | .pll | .plm | .pha | .phh | .phl | .phm | .jsc _ | .jzc _ | .jvc _
    | .jic _ | .jtc _ | .jpc _ | .jhc _ | .jcc _ | .jss _ | .jzs _ | .jvs _ | .jis _ | .jts _ | .jps _ | .jhs _
    | .jcs _ | .jmp _ | .jmm | .jne _ | .jeq _ | .jlt _ | .jle _ | .jgt _ | .jge _ | .jsr _ | .jsm | .ret | .rfi
    | .irq | .nmi | .wfi | .adi _ | .adh | .adl | .adm | .aci _ | .ach | .acl | .acm | .sui _ | .suh | .sul | .sum
    | .sci _ | .sch | .scl | .scm | .cpi _ | .cph | .cpl | .cpm | .ani _ | .anh | .anl | .anm | .ori _ | .orh | .orl
    | .orm | .xri _ | .xrh | .xrl | .xrm | .asl | .asr | .rol | .ror | .com | .neg | .trp | .bds => .v8042
    | .swb | .swc | .swd | .swe | .tba | .tca | .tda | .tea | .tab | .tac | .tad | .tae | .plb | .plc | .pld | .ple
    | .phb | .phc | .phd | .phe | .adb | .adc | .add | .ade | .acb | .acc | .acd | .ace | .sub | .suc | .sud | .sue
    | .scb | .scc | .scd | .sce | .cpb | .cpc | .cpd | .cpe | .anb | .anc | .and | .ane | .orb | .orc | .ord | .ore
    | .xrb | .xrc | .xrd | .xre => .v8842
    | .lrK _ _ | .srK _ _ | .pshR _ | .pulR _ | .tRR _ _ | .trR _ _ | .tRr _ _ | .swpRr _ _ | .addRr _ _ | .adcRr _ _
    | .subRr _ _ | .sbcRr _ _ | .cmpRr _ _ | .andRr _ _ | .orrRr _ _ | .xorRr _ _ | .aslR _ | .asrR _ | .rolR _
    | .rorR _ | .comR _ | .negR _ | .addRk _ _ | .adcRk _ _ | .subRk _ _ | .sbcRk _ _ | .cmpRk _ _ | .andRk _ _
    | .orrRk _ _ | .xorRk _ _ | .mulRr _ _ | .muk _ _ | .divRr _ _ | .dik _ _ | .modRr _ _ | .mok _ _ | .tpc
    | .stmMr _ | .ldmRm _ | .traRk _ _ => .v80142
    | .lfk _ _ | .sfk _ _ | .pshF _ | .pulF _ | .tFF _ _ | .tRF _ _ | .tFR _ _ | .trF _ _ | .tFr _ _ | .swpFf _ _
    | .addFf _ _ | .mulFf _ _ | .subFf _ _ | .divFf _ _ | .cmpFf _ _ | .modFf _ _ | .inv _ | .srt _ | .irt _ | .sin _
    | .cos _ | .tan _ | .abs _ | .negF _ | .addFk _ _ | .mulFk _ _ | .subFk _ _ | .divFk _ _ | .cmpFk _ _
    | .modFk _ _ | .powFf _ _ | .exf | .traFk _ _ | .swpFk _ _ => .v80143

/-- The instruction has an opcode byte: a cell of the map, or its `ENC_` parameter is supplied (R146). BDS has
neither (R322). -/
def Instr.encodable (cfg : Config) (i : Instr) : Bool :=
  match i with
  | .tpc => cfg.encTpc.isSome
  | .exf => cfg.encExf.isSome
  | .stmMr _ => cfg.encStmm.isSome
  | .ldmRm _ => cfg.encLdmm.isSome
  | .traRk _ _ => cfg.encTrk.isSome
  | .traFk _ _ => cfg.encTfk.isSome
  | .swpFk _ _ => cfg.encSwfk.isSome
  | .bds => false
    | .nop | .hlt | .sfi | .cfi | .sft | .cft | .exr | .swh | .swl | .swb | .swc | .swd | .swe | .swm | .lda _
    | .sta _ | .tri _ | .tha | .tla | .tba | .tca | .tda | .tea | .tma | .tah | .tal | .tab | .tac | .tad | .tae
    | .tam | .pla | .plh | .pll | .plb | .plc | .pld | .ple | .plm | .pha | .phh | .phl | .phb | .phc | .phd | .phe
    | .phm | .lrK _ _ | .srK _ _ | .pshR _ | .pulR _ | .lfk _ _ | .sfk _ _ | .pshF _ | .pulF _ | .tRR _ _ | .trR _ _
    | .tRr _ _ | .tFF _ _ | .tRF _ _ | .tFR _ _ | .trF _ _ | .tFr _ _ | .swpRr _ _ | .swpFf _ _ | .jsc _ | .jzc _
    | .jvc _ | .jic _ | .jtc _ | .jpc _ | .jhc _ | .jcc _ | .jss _ | .jzs _ | .jvs _ | .jis _ | .jts _ | .jps _
    | .jhs _ | .jcs _ | .jmp _ | .jmm | .jne _ | .jeq _ | .jlt _ | .jle _ | .jgt _ | .jge _ | .jsr _ | .jsm | .ret
    | .rfi | .irq | .nmi | .wfi | .adi _ | .adh | .adl | .adb | .adc | .add | .ade | .adm | .aci _ | .ach | .acl
    | .acb | .acc | .acd | .ace | .acm | .sui _ | .suh | .sul | .sub | .suc | .sud | .sue | .sum | .sci _ | .sch
    | .scl | .scb | .scc | .scd | .sce | .scm | .cpi _ | .cph | .cpl | .cpb | .cpc | .cpd | .cpe | .cpm | .ani _
    | .anh | .anl | .anb | .anc | .and | .ane | .anm | .ori _ | .orh | .orl | .orb | .orc | .ord | .ore | .orm
    | .xri _ | .xrh | .xrl | .xrb | .xrc | .xrd | .xre | .xrm | .asl | .asr | .rol | .ror | .com | .neg | .addRr _ _
    | .adcRr _ _ | .subRr _ _ | .sbcRr _ _ | .cmpRr _ _ | .andRr _ _ | .orrRr _ _ | .xorRr _ _ | .aslR _ | .asrR _
    | .rolR _ | .rorR _ | .comR _ | .negR _ | .addRk _ _ | .adcRk _ _ | .subRk _ _ | .sbcRk _ _ | .cmpRk _ _
    | .andRk _ _ | .orrRk _ _ | .xorRk _ _ | .mulRr _ _ | .muk _ _ | .divRr _ _ | .dik _ _ | .modRr _ _ | .mok _ _
    | .addFf _ _ | .mulFf _ _ | .subFf _ _ | .divFf _ _ | .cmpFf _ _ | .modFf _ _ | .inv _ | .srt _ | .irt _ | .sin _
    | .cos _ | .tan _ | .abs _ | .negF _ | .addFk _ _ | .mulFk _ _ | .subFk _ _ | .divFk _ _ | .cmpFk _ _
    | .modFk _ _ | .powFf _ _ | .trp => true

/-- The instruction is one the configured machine has: its variant is reached and it has an opcode. -/
def Instr.wellFormed (cfg : Config) (i : Instr) : Bool :=
  cfg.variant.has i.firstVariant && i.encodable cfg

end Sys2Proof
end

