-- ==== Sys2Proof/Decode.lean ====
section
/-! DEFINITION. Decoding (spec/30_encoding.md R110 to R147), and the encoder written from the same encodings. The
decoder reads the opcode map of R125 and R126; the encoder is R131's list, instruction by instruction. -/
namespace Sys2Proof

/-- The 8-bit register of a code (R120); codes 8 to 15 of a nibble are reserved (R142). -/
def Reg8.ofCode (n : Nat) : Option Reg8 :=
  match n with
  | 0 => some .a
  | 1 => some .h
  | 2 => some .l
  | 3 => some .b
  | 4 => some .c
  | 5 => some .d
  | 6 => some .e
  | 7 => some .m
  | _ => none

/-- The 16-bit register of a code (R122); codes 8 and above are reserved (R142). -/
def Reg16.ofCode (n : Nat) : Option Reg16 :=
  match n with
  | 0 => some .r0
  | 1 => some .r1
  | 2 => some .r2
  | 3 => some .r3
  | 4 => some .r4
  | 5 => some .r5
  | 6 => some .r6
  | 7 => some .r7
  | _ => none

/-- The float register of a code (R123); codes 4 and above are reserved (R142). -/
def FReg.ofCode (n : Nat) : Option FReg :=
  match n with
  | 0 => some .f0
  | 1 => some .f1
  | 2 => some .f2
  | 3 => some .f3
  | _ => none

/-- What follows the opcode byte (R110): how many bytes, and the instruction they complete. -/
inductive Form where
  /-- Formats X and R8: the opcode byte alone. -/
  | one (i : Instr)
  /-- Format K8: one constant byte (R113). -/
  | k8 (mk : Byte → Instr)
  /-- Format K16: a constant of two bytes (R114, R128). -/
  | k16 (mk : Word → Instr)
  /-- Formats 16RR, 16R and 16F: one register byte, `none` where R142 reserves it. -/
  | reg (mk : Byte → Option Instr)
  /-- Formats 16RK and 16FK: a register byte and a constant of two bytes. -/
  | regK (mk : Byte → Option (Word → Instr))

/-- Length in bytes, opcode included (R110). -/
def Form.length (f : Form) : Nat :=
  match f with
  | .one _ => 1
  | .k8 _ => 2
  | .k16 _ => 3
  | .reg _ => 2
  | .regK _ => 4

/-- Format 16RR: r1 in bits 7..4 and r2 in bits 3..0 of the register byte (R115, R124). -/
def Form.pair {α β : Type} (first : Nat → Option α) (second : Nat → Option β) (mk : α → β → Instr) : Form :=
  .reg fun b =>
    match first (b.toNat / 16), second (b.toNat % 16) with
    | some d, some s => some (mk d s)
    | _, _ => none

/-- Formats 16R and 16F: the code in the low bits, the rest of the byte zero (R118, R119, R142). A byte whose upper
bits are not zero is no code. -/
def Form.single {α : Type} (code : Nat → Option α) (mk : α → Instr) : Form :=
  .reg fun b => (code b.toNat).map mk

/-- Formats 16RK and 16FK: the register byte of `Form.single`, then the constant (R116, R117). -/
def Form.singleK {α : Type} (code : Nat → Option α) (mk : α → Word → Instr) : Form :=
  .regK fun b => (code b.toNat).map mk

/-- A defined cell of the opcode map: the smallest variant that has it (R145) and its form. -/
structure MapEntry where
  first : Variant
  form : Form

/-- A cell every variant has. -/
def on8042 (f : Form) : Option MapEntry := some ⟨.v8042, f⟩
/-- A cell from V8842 on: an 8-bit form that names B, C, D or E. -/
def on8842 (f : Form) : Option MapEntry := some ⟨.v8842, f⟩
/-- A cell from V80142 on: the 16-bit group. -/
def on80142 (f : Form) : Option MapEntry := some ⟨.v80142, f⟩
/-- A cell of V80143 only: the float group. -/
def on80143 (f : Form) : Option MapEntry := some ⟨.v80143, f⟩
/-- An undefined cell (R140, R141). -/
def noCell : Option MapEntry := none

/-- Row 0x of the map (R125, R131, R140). -/
def opcodeRow0 : List (Option MapEntry) :=
  [ on8042 (.one .nop), on8042 (.one .hlt), on8042 (.one .sfi), on8042 (.one .cfi), on8042 (.one .sft),
    on8042 (.one .cft), noCell, noCell, on8042 (.one .exr), on8042 (.one .swh), on8042 (.one .swl),
    on8842 (.one .swb), on8842 (.one .swc), on8842 (.one .swd), on8842 (.one .swe), on8042 (.one .swm) ]

/-- Row 1x of the map (R125, R131, R140). -/
def opcodeRow1 : List (Option MapEntry) :=
  [ on8042 (.k16 .lda), noCell, noCell, noCell, noCell, noCell, noCell, noCell, on8042 (.k16 .sta), noCell, noCell,
    noCell, noCell, noCell, noCell, noCell ]

/-- Row 2x of the map (R125, R131, R140). -/
def opcodeRow2 : List (Option MapEntry) :=
  [ on8042 (.k8 .tri), on8042 (.one .tha), on8042 (.one .tla), on8842 (.one .tba), on8842 (.one .tca),
    on8842 (.one .tda), on8842 (.one .tea), on8042 (.one .tma), noCell, on8042 (.one .tah), on8042 (.one .tal),
    on8842 (.one .tab), on8842 (.one .tac), on8842 (.one .tad), on8842 (.one .tae), on8042 (.one .tam) ]

/-- Row 3x of the map (R125, R131, R140). -/
def opcodeRow3 : List (Option MapEntry) :=
  [ on8042 (.one .pla), on8042 (.one .plh), on8042 (.one .pll), on8842 (.one .plb), on8842 (.one .plc),
    on8842 (.one .pld), on8842 (.one .ple), on8042 (.one .plm), on8042 (.one .pha), on8042 (.one .phh),
    on8042 (.one .phl), on8842 (.one .phb), on8842 (.one .phc), on8842 (.one .phd), on8842 (.one .phe),
    on8042 (.one .phm) ]

/-- Row 4x of the map (R125, R131, R140). -/
def opcodeRow4 : List (Option MapEntry) :=
  [ on80142 (.singleK Reg16.ofCode .lrK), on80142 (.singleK Reg16.ofCode .srK),
    on80142 (.single Reg16.ofCode .pshR), on80142 (.single Reg16.ofCode .pulR),
    on80143 (.singleK FReg.ofCode .lfk), on80143 (.singleK FReg.ofCode .sfk), on80143 (.single FReg.ofCode .pshF),
    on80143 (.single FReg.ofCode .pulF), on80142 (.pair Reg16.ofCode Reg16.ofCode .tRR),
    on80142 (.pair Reg16.ofCode Reg8.ofCode .trR), on80142 (.pair Reg8.ofCode Reg16.ofCode .tRr),
    on80143 (.pair FReg.ofCode FReg.ofCode .tFF), on80143 (.pair FReg.ofCode Reg16.ofCode .tRF),
    on80143 (.pair Reg16.ofCode FReg.ofCode .tFR), on80143 (.pair FReg.ofCode Reg8.ofCode .trF),
    on80143 (.pair Reg8.ofCode FReg.ofCode .tFr) ]

/-- Row 5x of the map (R125, R131, R140). -/
def opcodeRow5 : List (Option MapEntry) :=
  [ on80142 (.pair Reg16.ofCode Reg16.ofCode .swpRr), on80143 (.pair FReg.ofCode FReg.ofCode .swpFf), noCell,
    noCell, noCell, noCell, noCell, noCell, noCell, noCell, noCell, noCell, noCell, noCell, noCell, noCell ]

/-- Row 6x of the map (R125, R131, R140). -/
def opcodeRow6 : List (Option MapEntry) :=
  [ on8042 (.k16 .jsc), on8042 (.k16 .jzc), on8042 (.k16 .jvc), on8042 (.k16 .jic), on8042 (.k16 .jtc),
    on8042 (.k16 .jpc), on8042 (.k16 .jhc), on8042 (.k16 .jcc), on8042 (.k16 .jss), on8042 (.k16 .jzs),
    on8042 (.k16 .jvs), on8042 (.k16 .jis), on8042 (.k16 .jts), on8042 (.k16 .jps), on8042 (.k16 .jhs),
    on8042 (.k16 .jcs) ]

/-- Row 7x of the map (R125, R131, R140). -/
def opcodeRow7 : List (Option MapEntry) :=
  [ on8042 (.k16 .jmp), on8042 (.one .jmm), on8042 (.k16 .jne), on8042 (.k16 .jeq), on8042 (.k16 .jlt),
    on8042 (.k16 .jle), on8042 (.k16 .jgt), on8042 (.k16 .jge), on8042 (.k16 .jsr), on8042 (.one .jsm), noCell,
    on8042 (.one .ret), on8042 (.one .rfi), on8042 (.one .irq), on8042 (.one .nmi), on8042 (.one .wfi) ]

/-- Row 8x of the map (R125, R131, R140). -/
def opcodeRow8 : List (Option MapEntry) :=
  [ on8042 (.k8 .adi), on8042 (.one .adh), on8042 (.one .adl), on8842 (.one .adb), on8842 (.one .adc),
    on8842 (.one .add), on8842 (.one .ade), on8042 (.one .adm), on8042 (.k8 .aci), on8042 (.one .ach),
    on8042 (.one .acl), on8842 (.one .acb), on8842 (.one .acc), on8842 (.one .acd), on8842 (.one .ace),
    on8042 (.one .acm) ]

/-- Row 9x of the map (R125, R131, R140). -/
def opcodeRow9 : List (Option MapEntry) :=
  [ on8042 (.k8 .sui), on8042 (.one .suh), on8042 (.one .sul), on8842 (.one .sub), on8842 (.one .suc),
    on8842 (.one .sud), on8842 (.one .sue), on8042 (.one .sum), on8042 (.k8 .sci), on8042 (.one .sch),
    on8042 (.one .scl), on8842 (.one .scb), on8842 (.one .scc), on8842 (.one .scd), on8842 (.one .sce),
    on8042 (.one .scm) ]

/-- Row Ax of the map (R125, R131, R140). -/
def opcodeRowA : List (Option MapEntry) :=
  [ on8042 (.k8 .cpi), on8042 (.one .cph), on8042 (.one .cpl), on8842 (.one .cpb), on8842 (.one .cpc),
    on8842 (.one .cpd), on8842 (.one .cpe), on8042 (.one .cpm), on8042 (.k8 .ani), on8042 (.one .anh),
    on8042 (.one .anl), on8842 (.one .anb), on8842 (.one .anc), on8842 (.one .and), on8842 (.one .ane),
    on8042 (.one .anm) ]

/-- Row Bx of the map (R125, R131, R140). -/
def opcodeRowB : List (Option MapEntry) :=
  [ on8042 (.k8 .ori), on8042 (.one .orh), on8042 (.one .orl), on8842 (.one .orb), on8842 (.one .orc),
    on8842 (.one .ord), on8842 (.one .ore), on8042 (.one .orm), on8042 (.k8 .xri), on8042 (.one .xrh),
    on8042 (.one .xrl), on8842 (.one .xrb), on8842 (.one .xrc), on8842 (.one .xrd), on8842 (.one .xre),
    on8042 (.one .xrm) ]

/-- Row Cx of the map (R125, R131, R140). -/
def opcodeRowC : List (Option MapEntry) :=
  [ on8042 (.one .asl), on8042 (.one .asr), on8042 (.one .rol), on8042 (.one .ror), on8042 (.one .com),
    on8042 (.one .neg), noCell, noCell, on80142 (.pair Reg16.ofCode Reg16.ofCode .addRr),
    on80142 (.pair Reg16.ofCode Reg16.ofCode .adcRr), on80142 (.pair Reg16.ofCode Reg16.ofCode .subRr),
    on80142 (.pair Reg16.ofCode Reg16.ofCode .sbcRr), on80142 (.pair Reg16.ofCode Reg16.ofCode .cmpRr),
    on80142 (.pair Reg16.ofCode Reg16.ofCode .andRr), on80142 (.pair Reg16.ofCode Reg16.ofCode .orrRr),
    on80142 (.pair Reg16.ofCode Reg16.ofCode .xorRr) ]

/-- Row Dx of the map (R125, R131, R140). -/
def opcodeRowD : List (Option MapEntry) :=
  [ on80142 (.single Reg16.ofCode .aslR), on80142 (.single Reg16.ofCode .asrR),
    on80142 (.single Reg16.ofCode .rolR), on80142 (.single Reg16.ofCode .rorR),
    on80142 (.single Reg16.ofCode .comR), on80142 (.single Reg16.ofCode .negR), noCell, noCell,
    on80142 (.singleK Reg16.ofCode .addRk), on80142 (.singleK Reg16.ofCode .adcRk),
    on80142 (.singleK Reg16.ofCode .subRk), on80142 (.singleK Reg16.ofCode .sbcRk),
    on80142 (.singleK Reg16.ofCode .cmpRk), on80142 (.singleK Reg16.ofCode .andRk),
    on80142 (.singleK Reg16.ofCode .orrRk), on80142 (.singleK Reg16.ofCode .xorRk) ]

/-- Row Ex of the map (R125, R131, R140). -/
def opcodeRowE : List (Option MapEntry) :=
  [ on80142 (.pair Reg16.ofCode Reg16.ofCode .mulRr), on80142 (.singleK Reg16.ofCode .muk),
    on80142 (.pair Reg16.ofCode Reg16.ofCode .divRr), on80142 (.singleK Reg16.ofCode .dik),
    on80142 (.pair Reg16.ofCode Reg16.ofCode .modRr), on80142 (.singleK Reg16.ofCode .mok), noCell, noCell,
    on80143 (.pair FReg.ofCode FReg.ofCode .addFf), on80143 (.pair FReg.ofCode FReg.ofCode .mulFf),
    on80143 (.pair FReg.ofCode FReg.ofCode .subFf), on80143 (.pair FReg.ofCode FReg.ofCode .divFf),
    on80143 (.pair FReg.ofCode FReg.ofCode .cmpFf), on80143 (.pair FReg.ofCode FReg.ofCode .modFf), noCell, noCell ]

/-- Row Fx of the map (R125, R131, R140). -/
def opcodeRowF : List (Option MapEntry) :=
  [ on80143 (.single FReg.ofCode .inv), on80143 (.single FReg.ofCode .srt), on80143 (.single FReg.ofCode .irt),
    on80143 (.single FReg.ofCode .sin), on80143 (.single FReg.ofCode .cos), on80143 (.single FReg.ofCode .tan),
    on80143 (.single FReg.ofCode .abs), on80143 (.single FReg.ofCode .negF), on80143 (.singleK FReg.ofCode .addFk),
    on80143 (.singleK FReg.ofCode .mulFk), on80143 (.singleK FReg.ofCode .subFk),
    on80143 (.singleK FReg.ofCode .divFk), on80143 (.singleK FReg.ofCode .cmpFk),
    on80143 (.singleK FReg.ofCode .modFk), on80143 (.pair FReg.ofCode FReg.ofCode .powFf), on8042 (.one .trp) ]

/-- The opcode map (R125, R126): sixteen rows of sixteen cells. -/
def opcodeMap : List (List (Option MapEntry)) :=
  [opcodeRow0, opcodeRow1, opcodeRow2, opcodeRow3] ++ [opcodeRow4, opcodeRow5, opcodeRow6, opcodeRow7]
    ++ [opcodeRow8, opcodeRow9, opcodeRowA, opcodeRowB] ++ [opcodeRowC, opcodeRowD, opcodeRowE, opcodeRowF]

/-- The map's cell for an opcode byte: the row is the high digit, the column the low digit (R125). -/
def mapCell (b : Byte) : Option MapEntry :=
  (opcodeMap.getD (b.toNat / 16) []).getD (b.toNat % 16) none

/-- The instructions with no cell, each with the parameter that may give it a byte (R146). -/
def encodedByParameter (cfg : Config) : List (Option Byte × MapEntry) :=
  [ (cfg.encTpc, ⟨.v80142, .one .tpc⟩), (cfg.encExf, ⟨.v80143, .one .exf⟩),
    (cfg.encStmm, ⟨.v80142, .single Reg16.ofCode .stmMr⟩), (cfg.encLdmm, ⟨.v80142, .single Reg16.ofCode .ldmRm⟩),
    (cfg.encTrk, ⟨.v80142, .singleK Reg16.ofCode .traRk⟩), (cfg.encTfk, ⟨.v80143, .singleK FReg.ofCode .traFk⟩),
    (cfg.encSwfk, ⟨.v80143, .singleK FReg.ofCode .swpFk⟩) ]

/-- The supplied `ENC_` bytes are bytes the map leaves undefined, and no two instructions share one (R125: no byte has
two meanings; DESIGN CHOICE, unsafe: notes/assumptions/13.md). -/
def encodingsDistinct (cfg : Config) : Bool :=
  let supplied := (encodedByParameter cfg).filterMap (·.1)
  supplied.all (fun b => (mapCell b).isNone) && decide supplied.Nodup

/-- The cell of the map, or else the parameter, that gives the byte its meaning. -/
def entryOf (cfg : Config) (b : Byte) : Option MapEntry :=
  match mapCell b with
  | some e => some e
  | none => ((encodedByParameter cfg).find? (fun p => p.1 == some b)).map (·.2)

/-- The form an opcode byte selects in the configured variant; `none` is an undefined opcode byte (R147, step 2). -/
def formOf (cfg : Config) (b : Byte) : Option Form :=
  match entryOf cfg b with
  | some e => if cfg.variant.has e.first then some e.form else none
  | none => none

/-- Why bytes name no instruction. The machine turns each into `UndefinedInstruction` (R143); it never meets the first
and the third, since it reads as many bytes as the form asks for. -/
inductive DecodeError where
  /-- There is no opcode byte. -/
  | noBytes
  /-- The opcode byte is undefined, or the variant lacks it (R140, R145). -/
  | undefinedOpcode (opcode : Byte)
  /-- Fewer bytes than the format has. -/
  | truncated (opcode : Byte)
  /-- The register byte is a reserved encoding (R142). -/
  | reservedRegisterByte (opcode regByte : Byte)
deriving DecidableEq, Repr

/-- Reads the operand bytes of a form (R147, steps 4 to 6); what is left over comes back. -/
def decodeOperands (cfg : Config) (b : Byte) (f : Form) (bytes : List Byte) : Except DecodeError (Instr × List Byte) :=
  match f, bytes with
  | .one i, rest => .ok (i, rest)
  | .k8 mk, k :: rest => .ok (mk k, rest)
  | .k16 mk, k0 :: k1 :: rest => .ok (mk (joinWord cfg.byteOrder k0 k1), rest)
  | .reg mk, rb :: rest =>
    match mk rb with
    | some i => .ok (i, rest)
    | none => .error (.reservedRegisterByte b rb)
  | .regK mk, rb :: k0 :: k1 :: rest =>
    match mk rb with
    | some g => .ok (g (joinWord cfg.byteOrder k0 k1), rest)
    | none => .error (.reservedRegisterByte b rb)
  | _, _ => .error (.truncated b)

/-- The decoder (R147): total on any bytes, it answers one instruction with its operands and the bytes after it, or
says by name why there is none. -/
def decode (cfg : Config) (bytes : List Byte) : Except DecodeError (Instr × List Byte) :=
  match bytes with
  | [] => .error .noBytes
  | b :: rest =>
    match formOf cfg b with
    | some f => decodeOperands cfg b f rest
    | none => .error (.undefinedOpcode b)

/-- The code of an 8-bit register (R120). -/
def Reg8.code (r : Reg8) : Byte :=
  match r with
  | .a => 0
  | .h => 1
  | .l => 2
  | .b => 3
  | .c => 4
  | .d => 5
  | .e => 6
  | .m => 7

/-- The code of a 16-bit register (R122). -/
def Reg16.code (r : Reg16) : Byte :=
  match r with
  | .r0 => 0
  | .r1 => 1
  | .r2 => 2
  | .r3 => 3
  | .r4 => 4
  | .r5 => 5
  | .r6 => 6
  | .r7 => 7

/-- The code of a float register (R123). -/
def FReg.code (r : FReg) : Byte :=
  match r with
  | .f0 => 0
  | .f1 => 1
  | .f2 => 2
  | .f3 => 3

/-- The register byte of format 16RR: r1 in bits 7..4, r2 in bits 3..0 (R115). -/
def pairByte (r1 r2 : Byte) : Byte :=
  r1 <<< 4 ||| r2

/-- The bytes of an instruction, from R131's list; `none` where it has no encoding (R146, R322). -/
def encode (cfg : Config) (i : Instr) : Option (List Byte) :=
  match i with
  | .nop => some [0x00#8]
  | .hlt => some [0x01#8]
  | .sfi => some [0x02#8]
  | .cfi => some [0x03#8]
  | .sft => some [0x04#8]
  | .cft => some [0x05#8]
  | .exr => some [0x08#8]
  | .swh => some [0x09#8]
  | .swl => some [0x0A#8]
  | .swb => some [0x0B#8]
  | .swc => some [0x0C#8]
  | .swd => some [0x0D#8]
  | .swe => some [0x0E#8]
  | .swm => some [0x0F#8]
  | .lda k => some (0x10#8 :: wordBytes cfg.byteOrder k)
  | .sta k => some (0x18#8 :: wordBytes cfg.byteOrder k)
  | .tri k => some [0x20#8, k]
  | .tha => some [0x21#8]
  | .tla => some [0x22#8]
  | .tba => some [0x23#8]
  | .tca => some [0x24#8]
  | .tda => some [0x25#8]
  | .tea => some [0x26#8]
  | .tma => some [0x27#8]
  | .tah => some [0x29#8]
  | .tal => some [0x2A#8]
  | .tab => some [0x2B#8]
  | .tac => some [0x2C#8]
  | .tad => some [0x2D#8]
  | .tae => some [0x2E#8]
  | .tam => some [0x2F#8]
  | .pla => some [0x30#8]
  | .plh => some [0x31#8]
  | .pll => some [0x32#8]
  | .plb => some [0x33#8]
  | .plc => some [0x34#8]
  | .pld => some [0x35#8]
  | .ple => some [0x36#8]
  | .plm => some [0x37#8]
  | .pha => some [0x38#8]
  | .phh => some [0x39#8]
  | .phl => some [0x3A#8]
  | .phb => some [0x3B#8]
  | .phc => some [0x3C#8]
  | .phd => some [0x3D#8]
  | .phe => some [0x3E#8]
  | .phm => some [0x3F#8]
  | .lrK r k => some (0x40#8 :: r.code :: wordBytes cfg.byteOrder k)
  | .srK r k => some (0x41#8 :: r.code :: wordBytes cfg.byteOrder k)
  | .pshR r => some [0x42#8, r.code]
  | .pulR r => some [0x43#8, r.code]
  | .lfk r k => some (0x44#8 :: r.code :: wordBytes cfg.byteOrder k)
  | .sfk r k => some (0x45#8 :: r.code :: wordBytes cfg.byteOrder k)
  | .pshF r => some [0x46#8, r.code]
  | .pulF r => some [0x47#8, r.code]
  | .tRR rd rs => some [0x48#8, pairByte rd.code rs.code]
  | .trR rd rs => some [0x49#8, pairByte rd.code rs.code]
  | .tRr rd rs => some [0x4A#8, pairByte rd.code rs.code]
  | .tFF rd rs => some [0x4B#8, pairByte rd.code rs.code]
  | .tRF rd rs => some [0x4C#8, pairByte rd.code rs.code]
  | .tFR rd rs => some [0x4D#8, pairByte rd.code rs.code]
  | .trF rd rs => some [0x4E#8, pairByte rd.code rs.code]
  | .tFr rd rs => some [0x4F#8, pairByte rd.code rs.code]
  | .swpRr rd rs => some [0x50#8, pairByte rd.code rs.code]
  | .swpFf rd rs => some [0x51#8, pairByte rd.code rs.code]
  | .jsc k => some (0x60#8 :: wordBytes cfg.byteOrder k)
  | .jzc k => some (0x61#8 :: wordBytes cfg.byteOrder k)
  | .jvc k => some (0x62#8 :: wordBytes cfg.byteOrder k)
  | .jic k => some (0x63#8 :: wordBytes cfg.byteOrder k)
  | .jtc k => some (0x64#8 :: wordBytes cfg.byteOrder k)
  | .jpc k => some (0x65#8 :: wordBytes cfg.byteOrder k)
  | .jhc k => some (0x66#8 :: wordBytes cfg.byteOrder k)
  | .jcc k => some (0x67#8 :: wordBytes cfg.byteOrder k)
  | .jss k => some (0x68#8 :: wordBytes cfg.byteOrder k)
  | .jzs k => some (0x69#8 :: wordBytes cfg.byteOrder k)
  | .jvs k => some (0x6A#8 :: wordBytes cfg.byteOrder k)
  | .jis k => some (0x6B#8 :: wordBytes cfg.byteOrder k)
  | .jts k => some (0x6C#8 :: wordBytes cfg.byteOrder k)
  | .jps k => some (0x6D#8 :: wordBytes cfg.byteOrder k)
  | .jhs k => some (0x6E#8 :: wordBytes cfg.byteOrder k)
  | .jcs k => some (0x6F#8 :: wordBytes cfg.byteOrder k)
  | .jmp k => some (0x70#8 :: wordBytes cfg.byteOrder k)
  | .jmm => some [0x71#8]
  | .jne k => some (0x72#8 :: wordBytes cfg.byteOrder k)
  | .jeq k => some (0x73#8 :: wordBytes cfg.byteOrder k)
  | .jlt k => some (0x74#8 :: wordBytes cfg.byteOrder k)
  | .jle k => some (0x75#8 :: wordBytes cfg.byteOrder k)
  | .jgt k => some (0x76#8 :: wordBytes cfg.byteOrder k)
  | .jge k => some (0x77#8 :: wordBytes cfg.byteOrder k)
  | .jsr k => some (0x78#8 :: wordBytes cfg.byteOrder k)
  | .jsm => some [0x79#8]
  | .ret => some [0x7B#8]
  | .rfi => some [0x7C#8]
  | .irq => some [0x7D#8]
  | .nmi => some [0x7E#8]
  | .wfi => some [0x7F#8]
  | .adi k => some [0x80#8, k]
  | .adh => some [0x81#8]
  | .adl => some [0x82#8]
  | .adb => some [0x83#8]
  | .adc => some [0x84#8]
  | .add => some [0x85#8]
  | .ade => some [0x86#8]
  | .adm => some [0x87#8]
  | .aci k => some [0x88#8, k]
  | .ach => some [0x89#8]
  | .acl => some [0x8A#8]
  | .acb => some [0x8B#8]
  | .acc => some [0x8C#8]
  | .acd => some [0x8D#8]
  | .ace => some [0x8E#8]
  | .acm => some [0x8F#8]
  | .sui k => some [0x90#8, k]
  | .suh => some [0x91#8]
  | .sul => some [0x92#8]
  | .sub => some [0x93#8]
  | .suc => some [0x94#8]
  | .sud => some [0x95#8]
  | .sue => some [0x96#8]
  | .sum => some [0x97#8]
  | .sci k => some [0x98#8, k]
  | .sch => some [0x99#8]
  | .scl => some [0x9A#8]
  | .scb => some [0x9B#8]
  | .scc => some [0x9C#8]
  | .scd => some [0x9D#8]
  | .sce => some [0x9E#8]
  | .scm => some [0x9F#8]
  | .cpi k => some [0xA0#8, k]
  | .cph => some [0xA1#8]
  | .cpl => some [0xA2#8]
  | .cpb => some [0xA3#8]
  | .cpc => some [0xA4#8]
  | .cpd => some [0xA5#8]
  | .cpe => some [0xA6#8]
  | .cpm => some [0xA7#8]
  | .ani k => some [0xA8#8, k]
  | .anh => some [0xA9#8]
  | .anl => some [0xAA#8]
  | .anb => some [0xAB#8]
  | .anc => some [0xAC#8]
  | .and => some [0xAD#8]
  | .ane => some [0xAE#8]
  | .anm => some [0xAF#8]
  | .ori k => some [0xB0#8, k]
  | .orh => some [0xB1#8]
  | .orl => some [0xB2#8]
  | .orb => some [0xB3#8]
  | .orc => some [0xB4#8]
  | .ord => some [0xB5#8]
  | .ore => some [0xB6#8]
  | .orm => some [0xB7#8]
  | .xri k => some [0xB8#8, k]
  | .xrh => some [0xB9#8]
  | .xrl => some [0xBA#8]
  | .xrb => some [0xBB#8]
  | .xrc => some [0xBC#8]
  | .xrd => some [0xBD#8]
  | .xre => some [0xBE#8]
  | .xrm => some [0xBF#8]
  | .asl => some [0xC0#8]
  | .asr => some [0xC1#8]
  | .rol => some [0xC2#8]
  | .ror => some [0xC3#8]
  | .com => some [0xC4#8]
  | .neg => some [0xC5#8]
  | .addRr rd rs => some [0xC8#8, pairByte rd.code rs.code]
  | .adcRr rd rs => some [0xC9#8, pairByte rd.code rs.code]
  | .subRr rd rs => some [0xCA#8, pairByte rd.code rs.code]
  | .sbcRr rd rs => some [0xCB#8, pairByte rd.code rs.code]
  | .cmpRr rd rs => some [0xCC#8, pairByte rd.code rs.code]
  | .andRr rd rs => some [0xCD#8, pairByte rd.code rs.code]
  | .orrRr rd rs => some [0xCE#8, pairByte rd.code rs.code]
  | .xorRr rd rs => some [0xCF#8, pairByte rd.code rs.code]
  | .aslR r => some [0xD0#8, r.code]
  | .asrR r => some [0xD1#8, r.code]
  | .rolR r => some [0xD2#8, r.code]
  | .rorR r => some [0xD3#8, r.code]
  | .comR r => some [0xD4#8, r.code]
  | .negR r => some [0xD5#8, r.code]
  | .addRk r k => some (0xD8#8 :: r.code :: wordBytes cfg.byteOrder k)
  | .adcRk r k => some (0xD9#8 :: r.code :: wordBytes cfg.byteOrder k)
  | .subRk r k => some (0xDA#8 :: r.code :: wordBytes cfg.byteOrder k)
  | .sbcRk r k => some (0xDB#8 :: r.code :: wordBytes cfg.byteOrder k)
  | .cmpRk r k => some (0xDC#8 :: r.code :: wordBytes cfg.byteOrder k)
  | .andRk r k => some (0xDD#8 :: r.code :: wordBytes cfg.byteOrder k)
  | .orrRk r k => some (0xDE#8 :: r.code :: wordBytes cfg.byteOrder k)
  | .xorRk r k => some (0xDF#8 :: r.code :: wordBytes cfg.byteOrder k)
  | .mulRr rd rs => some [0xE0#8, pairByte rd.code rs.code]
  | .muk r k => some (0xE1#8 :: r.code :: wordBytes cfg.byteOrder k)
  | .divRr rd rs => some [0xE2#8, pairByte rd.code rs.code]
  | .dik r k => some (0xE3#8 :: r.code :: wordBytes cfg.byteOrder k)
  | .modRr rd rs => some [0xE4#8, pairByte rd.code rs.code]
  | .mok r k => some (0xE5#8 :: r.code :: wordBytes cfg.byteOrder k)
  | .addFf rd rs => some [0xE8#8, pairByte rd.code rs.code]
  | .mulFf rd rs => some [0xE9#8, pairByte rd.code rs.code]
  | .subFf rd rs => some [0xEA#8, pairByte rd.code rs.code]
  | .divFf rd rs => some [0xEB#8, pairByte rd.code rs.code]
  | .cmpFf rd rs => some [0xEC#8, pairByte rd.code rs.code]
  | .modFf rd rs => some [0xED#8, pairByte rd.code rs.code]
  | .inv r => some [0xF0#8, r.code]
  | .srt r => some [0xF1#8, r.code]
  | .irt r => some [0xF2#8, r.code]
  | .sin r => some [0xF3#8, r.code]
  | .cos r => some [0xF4#8, r.code]
  | .tan r => some [0xF5#8, r.code]
  | .abs r => some [0xF6#8, r.code]
  | .negF r => some [0xF7#8, r.code]
  | .addFk r k => some (0xF8#8 :: r.code :: wordBytes cfg.byteOrder k)
  | .mulFk r k => some (0xF9#8 :: r.code :: wordBytes cfg.byteOrder k)
  | .subFk r k => some (0xFA#8 :: r.code :: wordBytes cfg.byteOrder k)
  | .divFk r k => some (0xFB#8 :: r.code :: wordBytes cfg.byteOrder k)
  | .cmpFk r k => some (0xFC#8 :: r.code :: wordBytes cfg.byteOrder k)
  | .modFk r k => some (0xFD#8 :: r.code :: wordBytes cfg.byteOrder k)
  | .powFf rd rs => some [0xFE#8, pairByte rd.code rs.code]
  | .trp => some [0xFF#8]
  | .tpc => cfg.encTpc.map fun op => [op]
  | .exf => cfg.encExf.map fun op => [op]
  | .stmMr r => cfg.encStmm.map fun op => [op, r.code]
  | .ldmRm r => cfg.encLdmm.map fun op => [op, r.code]
  | .traRk r k => cfg.encTrk.map fun op => op :: r.code :: wordBytes cfg.byteOrder k
  | .traFk r k => cfg.encTfk.map fun op => op :: r.code :: wordBytes cfg.byteOrder k
  | .swpFk r k => cfg.encSwfk.map fun op => op :: r.code :: wordBytes cfg.byteOrder k
  | .bds => none

/-- Length in bytes by the instruction's format (R110); BDS has no format (R322). -/
def Instr.length (i : Instr) : Nat :=
  match i with
  | .bds => 0
    | .nop | .hlt | .sfi | .cfi | .sft | .cft | .exr | .swh | .swl | .swb | .swc | .swd | .swe | .swm | .tha | .tla
    | .tba | .tca | .tda | .tea | .tma | .tah | .tal | .tab | .tac | .tad | .tae | .tam | .pla | .plh | .pll | .plb
    | .plc | .pld | .ple | .plm | .pha | .phh | .phl | .phb | .phc | .phd | .phe | .phm | .jmm | .jsm | .ret | .rfi
    | .irq | .nmi | .wfi | .adh | .adl | .adb | .adc | .add | .ade | .adm | .ach | .acl | .acb | .acc | .acd | .ace
    | .acm | .suh | .sul | .sub | .suc | .sud | .sue | .sum | .sch | .scl | .scb | .scc | .scd | .sce | .scm | .cph
    | .cpl | .cpb | .cpc | .cpd | .cpe | .cpm | .anh | .anl | .anb | .anc | .and | .ane | .anm | .orh | .orl | .orb
    | .orc | .ord | .ore | .orm | .xrh | .xrl | .xrb | .xrc | .xrd | .xre | .xrm | .asl | .asr | .rol | .ror | .com
    | .neg | .trp | .tpc | .exf => 1
    | .tri _ | .pshR _ | .pulR _ | .pshF _ | .pulF _ | .tRR _ _ | .trR _ _ | .tRr _ _ | .tFF _ _ | .tRF _ _
    | .tFR _ _ | .trF _ _ | .tFr _ _ | .swpRr _ _ | .swpFf _ _ | .adi _ | .aci _ | .sui _ | .sci _ | .cpi _ | .ani _
    | .ori _ | .xri _ | .addRr _ _ | .adcRr _ _ | .subRr _ _ | .sbcRr _ _ | .cmpRr _ _ | .andRr _ _ | .orrRr _ _
    | .xorRr _ _ | .aslR _ | .asrR _ | .rolR _ | .rorR _ | .comR _ | .negR _ | .mulRr _ _ | .divRr _ _ | .modRr _ _
    | .addFf _ _ | .mulFf _ _ | .subFf _ _ | .divFf _ _ | .cmpFf _ _ | .modFf _ _ | .inv _ | .srt _ | .irt _ | .sin _
    | .cos _ | .tan _ | .abs _ | .negF _ | .powFf _ _ | .stmMr _ | .ldmRm _ => 2
    | .lda _ | .sta _ | .jsc _ | .jzc _ | .jvc _ | .jic _ | .jtc _ | .jpc _ | .jhc _ | .jcc _ | .jss _ | .jzs _
    | .jvs _ | .jis _ | .jts _ | .jps _ | .jhs _ | .jcs _ | .jmp _ | .jne _ | .jeq _ | .jlt _ | .jle _ | .jgt _
    | .jge _ | .jsr _ => 3
    | .lrK _ _ | .srK _ _ | .lfk _ _ | .sfk _ _ | .addRk _ _ | .adcRk _ _ | .subRk _ _ | .sbcRk _ _ | .cmpRk _ _
    | .andRk _ _ | .orrRk _ _ | .xorRk _ _ | .muk _ _ | .dik _ _ | .mok _ _ | .addFk _ _ | .mulFk _ _ | .subFk _ _
    | .divFk _ _ | .cmpFk _ _ | .modFk _ _ | .traRk _ _ | .traFk _ _ | .swpFk _ _ => 4

/-- The longest instruction has four bytes (R110). -/
def longestInstr : Nat := 4

/-- The bytes of an instruction given as one number, the first byte lowest, every bit above `nbits` zero, up to the
longest instruction: how spec/opcode_table.json numbers its bits (notes/assumptions/16.md). -/
def tableBytes (nbits w : Nat) : List Byte :=
  (List.range longestInstr).map fun n => BitVec.ofNat 8 (w % 2 ^ nbits / 256 ^ n)

/-- What the decoder reads from the word `w` of an opcode-table row of `nbits` bits, under the parameters of the worked
examples. -/
def decodeTableWord (nbits w : Nat) : Option Instr :=
  match decode Config.reference (tableBytes nbits w) with
  | .ok (i, _) => some i
  | .error _ => none

end Sys2Proof
end

