-- ==== Sys2Proof/Machine/Fetch.lean ====
section
/-! DEFINITION. Instruction fetch (spec/20_memory.md R86; spec/30_encoding.md R147), its faults in the order of
spec/60_exceptions.md R499. -/
namespace Sys2Proof.Machine

/-- Reads one byte of an instruction (R86): memory as it is at that moment (R98). -/
def fetchByte (addr : Word) (s : State) : Res Byte :=
  andThen (access s.cfg ⟨addr, .byte, .read, .fetch⟩) fun _ => .next (s.mem.read addr)

/-- Reads `n` bytes from an address on, in increasing address order, wrapping after 0xFFFF (R48, R86). -/
def fetchBytes (addr : Word) (n : Nat) (s : State) : Res (List Byte) :=
  match n with
  | 0 => .next []
  | k + 1 =>
    andThen (fetchByte addr s) fun b =>
      andThen (fetchBytes (addr + 1#16) k s) fun rest => .next (b :: rest)

/-- Fetches and decodes the instruction at `pc` (R86, R147). The order is R499's: the opcode byte's access, the opcode
byte, the operand bytes' accesses, the register byte. -/
def fetchInstr (s : State) : Res Instr :=
  andThen (fetchByte s.pc s) fun b =>
    match formOf s.cfg b with
    | none => .fault (.undefinedInstruction s.pc b none)
    | some f =>
      andThen (fetchBytes (s.pc + 1#16) (f.length - 1) s) fun operands =>
        match decode s.cfg (b :: operands) with
        | .ok (i, _) => .next i
        | .error _ => .fault (.undefinedInstruction s.pc b operands.head?)

end Sys2Proof.Machine
end

