-- ==== Sys2Proof/Machine/Step.lean ====
section
/-! DEFINITION. One step of the machine (spec/60_exceptions.md R498, R499; spec/70_reset_and_hazards.md R543): an
external request taken, or one instruction. -/
namespace Sys2Proof.Machine

/-- One step. Halted: no step remains (R317, R543). Otherwise an external request that is taken at the boundary is the
step (R496; R499, point 1); if none is, a waiting machine remains waiting (R320; DEDUCED, safe:
notes/assumptions/7.md) and a running one fetches and executes one instruction. -/
def step (s : State) : Host.Outcome State Fault Refusal :=
  match s.status with
  | .halted => .refused .halted
  | .waiting =>
    match takenRequest s with
    | some kind => trap kind (passBoundary s)
    | none => .next (passBoundary s)
  | .running =>
    match takenRequest s with
    | some kind => trap kind (passBoundary s)
    | none => andThen (fetchInstr s) fun i => exec i (passBoundary s)

/-- Bytes put into memory at rising addresses, no access checked: how an image is loaded (R543). -/
def Memory.load (m : Memory) (addr : Word) (bytes : List Byte) : Memory :=
  match bytes with
  | [] => m
  | b :: rest => Memory.load (m.write addr b) (addr + 1#16) rest

/-- The state with the instruction of an opcode-table word where the next step fetches: its bytes at `pc`, the status
running, and nothing offered at the next boundary. DESIGN CHOICE, safe (notes/assumptions/16.md). -/
def State.withFetchWord (s : State) (nbits w : Nat) : State :=
  ((s.setMem (s.mem.load s.pc (tableBytes nbits w))).setStatus .running).setEvents
    (if s.events.head = .quiet then s.events else .offer .quiet s.events.tail)

end Sys2Proof.Machine
end

