-- ==== Sys2Proof/Machine/Launch.lean ====
section
/-! DEFINITION. The launch of a run (spec/70_reset_and_hazards.md R540, R543): reset for any platform, any image and any
draw of the unspecified registers. -/
namespace Sys2Proof.Machine

/-- The registers R50 leaves unspecified: an explicit, unconstrained source for each (spec/93_implementation_defined.md
rows 9 and 10, treatment `any value`). A claim about a launch holds for every draw. -/
structure Draw where
  /-- SP, used when `RESET_SP` is not supplied. -/
  sp : Word
  /-- A. -/
  a : Byte
  /-- FLAG, I and T included (R541). -/
  flag : Flags
  /-- R0 to R7. -/
  x : Regs
  /-- F0 to F3. -/
  f : FRegs
  /-- A'. -/
  shadowA : Byte
  /-- FLAG'. -/
  shadowFlag : Flags
  /-- R0' to R7'. -/
  shadowX : Regs
  /-- F0' to F3'. -/
  shadowF : FRegs
deriving DecidableEq, Repr

/-- The image written into memory before the first step (R543); the last byte given for an address stays. -/
def Memory.image (m : Memory) (cells : List (Word × Byte)) : Memory :=
  match cells with
  | [] => m
  | c :: rest => Memory.image (m.write c.1 c.2) rest

/-- The state a run starts from (R543): refused without `RESET_PC`, and where the image puts a byte on an `absent`
address. DEDUCED, safe (notes/assumptions/18.md). -/
def launch (cfg : Config) (d : Draw) (cells : List (Word × Byte)) (offers : EventStream) : Res State :=
  match cfg.resetPc with
  | none => .refused .resetPcNotSupplied
  | some pc =>
    match cells.find? (fun c => decide (memKind cfg c.1 = .absent)) with
    | some c => .refused (.imageOnAbsent c.1)
    | none =>
      .next
        { cfg := cfg
          pc := pc
          sp := cfg.resetSp.getD d.sp
          a := d.a
          flag := d.flag
          x := d.x
          f := d.f
          shadowA := d.shadowA
          shadowFlag := d.shadowFlag
          shadowX := d.shadowX
          shadowF := d.shadowF
          status := .running
          mem := Memory.image [] cells
          events := offers }

end Sys2Proof.Machine
end

