-- ==== Sys2Proof/Safety.lean ====
section
/-! DEFINITION. What claims about runs say: completing, reaching, and the three ends of a run
(spec/70_reset_and_hazards.md R543). -/
namespace Sys2Proof

open Machine

/-- The step answers a next state: neither a fault (R490) nor a refusal. -/
def Completes (s : State) : Prop := ∃ t, step s = .next t

/-- A run of any number of steps leads from one state to another. -/
inductive Reaches (s : State) : State → Prop where
  | refl : Reaches s s
  | tail {t u : State} : Reaches s t → step t = .next u → Reaches s u

/-- The normal end of a run (R543): halted. The state is final; `step` answers that no step remains. -/
def EndsHalted (s : State) : Prop := s.status = .halted

/-- Waiting for ever (R320, R543): waiting, and from this boundary on nothing is offered that is taken. A maskable
request offered while I is 0 is discarded, and I does not change while the machine waits. -/
def WaitsForEver (s : State) : Prop :=
  s.status = .waiting ∧ ∀ n, requestTaken (s.events.drop n).head s.flag.i = none

/-- The invariant of every state the machine can be in (R80): memory in its canonical form. -/
def Inv (s : State) : Prop := s.mem.wf

end Sys2Proof
end

