-- ==== Sys2Proof/Certificates/Slice0/Obligations.lean ====
section
/-! DEFINITION. The statements for the provers. `Sys2Proof.Claims` says in the spec's own terms what the statements
compare the machine with; every equation `exec i s = .next t` says the result, the frame and the completion at once. -/
namespace Sys2Proof.Claims

open Machine

/-! ## Values and operands -/

/-- Bits 15..8 (R10). -/
def high (v : Word) : Byte := v.extractLsb' 8 8

/-- Bits 7..0 (R10). -/
def low (v : Word) : Byte := v.extractLsb' 0 8

/-- `hi ++ lo` (R11). -/
def cat (hi lo : Byte) : Word := hi ++ lo

/-- What an 8-bit operand code reads (R40). -/
def value8 (r : Reg8) (s : State) : Byte :=
  match r with
  | .a => s.a
  | .h => high s.x.r0
  | .l => low s.x.r0
  | .b => high s.x.r1
  | .c => low s.x.r1
  | .d => high s.x.r2
  | .e => low s.x.r2
  | .m => s.mem.read s.x.r0

/-- An 8-bit operand can be read: M only where the byte at HL may be read. -/
def readable8 (r : Reg8) (s : State) : Prop := r = .m → allows s.cfg (readOf s.x.r0 .byte) = true

/-- An 8-bit operand can be written: M only where the byte at HL may be written. -/
def writable8 (r : Reg8) (s : State) : Prop := r = .m → allows s.cfg (writeOf s.x.r0 .byte) = true

/-- One byte stored: it reads back at its address, and every other address reads as before (R83). -/
def Stores8 (m m' : Memory) (addr : Word) (v : Byte) : Prop :=
  ∀ b : Word, m'.read b = if b = addr then v else m.read b

/-- A word stored: its two bytes at the address and the next one in byte order, and every other address reads as
before (R83, R85). -/
def Stores16 (o : ByteOrder) (m m' : Memory) (addr v : Word) : Prop :=
  ∀ b : Word, m'.read b =
    if b = addr then (if o = .big then high v else low v)
    else if b = addr + 1#16 then (if o = .big then low v else high v) else m.read b

/-- The word two bytes make (R82). -/
def word (o : ByteOrder) (m : Memory) (addr : Word) : Word :=
  if o = .big then cat (m.read addr) (m.read (addr + 1#16)) else cat (m.read (addr + 1#16)) (m.read addr)

/-- `Op8Write(r, v)` leads from `s` to `t` (R40). -/
def Writes8 (r : Reg8) (v : Byte) (s t : State) : Prop :=
  match r with
  | .a => t = { s with a := v }
  | .h => t = { s with x := { s.x with r0 := cat v (low s.x.r0) } }
  | .l => t = { s with x := { s.x with r0 := cat (high s.x.r0) v } }
  | .b => t = { s with x := { s.x with r1 := cat v (low s.x.r1) } }
  | .c => t = { s with x := { s.x with r1 := cat (high s.x.r1) v } }
  | .d => t = { s with x := { s.x with r2 := cat v (low s.x.r2) } }
  | .e => t = { s with x := { s.x with r2 := cat (high s.x.r2) v } }
  | .m => Stores8 s.mem t.mem s.x.r0 v ∧ t = { s with mem := t.mem }

/-! ## Flags -/

/-- One flag by its code (R121). -/
def flagOf (n : FlagName) (f : Flags) : Bool :=
  match n with
  | .s => f.s
  | .z => f.z
  | .v => f.v
  | .i => f.i
  | .t => f.t
  | .p => f.p
  | .h => f.h
  | .c => f.c

/-- The number of 1 bits. -/
def ones {w : Nat} (v : BitVec w) : Nat := ((List.range w).filter v.getLsbD).length

/-- `SZP_W` (R45). -/
def szp {w : Nat} (res : BitVec w) (f : Flags) : Flags :=
  { f with s := res.getLsbD (w - 1), z := decide (res.toNat = 0), p := decide (ones res % 2 = 0) }

/-- `AddFlags_W` (R45): result and flags. -/
def add {w : Nat} (a b : BitVec w) (cin : Bool) (f : Flags) : BitVec w × Flags :=
  let sum := a.toNat + b.toNat + cin.toNat
  let res := BitVec.ofNat w (sum % 2 ^ w)
  (res,
    { szp res f with
      c := decide (sum ≥ 2 ^ w)
      h := decide (a.toNat % 16 + b.toNat % 16 + cin.toNat ≥ 16)
      v := decide (a.getLsbD (w - 1) = b.getLsbD (w - 1) ∧ res.getLsbD (w - 1) ≠ a.getLsbD (w - 1)) })

/-- `SubFlags_W` (R45): result and flags. -/
def sub {w : Nat} (a b : BitVec w) (bin : Bool) (f : Flags) : BitVec w × Flags :=
  let diff : Int := a.toNat - b.toNat - bin.toNat
  let res := BitVec.ofNat w (diff % 2 ^ w).toNat
  (res,
    { szp res f with
      c := decide (diff < 0)
      h := decide ((a.toNat : Int) % 16 - (b.toNat : Int) % 16 - bin.toNat < 0)
      v := decide (a.getLsbD (w - 1) ≠ b.getLsbD (w - 1) ∧ res.getLsbD (w - 1) ≠ a.getLsbD (w - 1)) })

/-- A result whose flags are `SZP_W` only (R46). -/
def logic {w : Nat} (res : BitVec w) (f : Flags) : BitVec w × Flags := (res, szp res f)

/-- A shift or rotate: `SZP_W`, and C the bit moved out (R46). -/
def shift {w : Nat} (res : BitVec w) (out : Bool) (f : Flags) : BitVec w × Flags := (res, { szp res f with c := out })

/-- A bit put in at the right of the low `n` bits: `v[n-1:0] ++ b`. -/
def enterRight (n : Nat) (v : BitVec (n + 1)) (b : Bool) : BitVec (n + 1) := v.extractLsb' 0 n ++ BitVec.ofBool b

/-- A bit put in at the left of the high `n` bits: `b ++ v[n:1]`. -/
def enterLeft (n : Nat) (v : BitVec (n + 1)) (b : Bool) : BitVec (n + 1) :=
  (BitVec.ofBool b ++ v.extractLsb' 1 n).cast (Nat.add_comm 1 n)

/-! ## Next states -/

/-- The result to A, its flags to FLAG, pc past an instruction of `n` bytes. -/
def toA (r : Byte × Flags) (n : Word) (s : State) : State := { s with a := r.1, flag := r.2, pc := s.pc + n }

/-- The result to `x[d]`, its flags to FLAG, pc past an instruction of `n` bytes. -/
def toReg (d : Reg16) (r : Word × Flags) (n : Word) (s : State) : State :=
  { s with x := s.x.set d r.1, flag := r.2, pc := s.pc + n }

/-- The value to `f[d]`, pc past an instruction of `n` bytes; no flag is written (R432). -/
def toFloat (d : FReg) (v : Word) (n : Word) (s : State) : State := { s with f := s.f.set d v, pc := s.pc + n }

/-- The target of a relative jump (R281). -/
def target (k : Word) (s : State) : Word :=
  if s.cfg.relBase = .own then s.pc + k else s.pc + 3#16 + k

/-- A relative jump (R282, R283, R286 to R291). -/
def jump (taken : Bool) (k : Word) (s : State) : State := { s with pc := if taken then target k s else s.pc + 3#16 }

/-- A byte widened to 16 bits by `TRA8_HIGH` (R342). -/
def wide (s : State) (old : Word) (v : Byte) : Word :=
  match s.cfg.tra8High with
  | .sign => v.signExtend 16
  | .zero => v.zeroExtend 16
  | .keep => cat (high old) v

/-! ## Encodings -/

/-- Under every configuration the instruction has these bytes. -/
def Encodes (i : Instr) (bytes : List Byte) : Prop := ∀ cfg, encode cfg i = some bytes

/-- The register byte of format 16RR (R115). -/
def regPair (r1 r2 : Byte) : Byte := BitVec.ofNat 8 (16 * r1.toNat + r2.toNat)

/-- The two bytes of a constant, in `BYTE_ORDER` (R128). -/
def constant (cfg : Config) (k : Word) : List Byte :=
  if cfg.byteOrder = .big then [high k, low k] else [low k, high k]

/-- A K16 instruction: opcode and constant (R114). -/
def EncodesK (i : Instr) (op : Byte) (k : Word) : Prop := ∀ cfg, encode cfg i = some (op :: constant cfg k)

/-- A 16RK or 16FK instruction: opcode, register byte and constant (R116, R117). -/
def EncodesRK (i : Instr) (op reg : Byte) (k : Word) : Prop :=
  ∀ cfg, encode cfg i = some (op :: reg :: constant cfg k)

/-! ## Lists of forms -/

/-- The read of an 8-bit operand: an access to memory only where it is M. -/
def readsM (r : Reg8) (s : State) : List Access := if r = .m then [readOf s.x.r0 .byte] else []

/-- The write of an 8-bit operand. -/
def writesM (r : Reg8) (s : State) : List Access := if r = .m then [writeOf s.x.r0 .byte] else []

/-- ADr: each instruction, its operand and its opcode byte (R161). -/
def adForms : List (Instr × Reg8 × Byte) :=
  [(.adh, .h, 0x81#8), (.adl, .l, 0x82#8), (.adb, .b, 0x83#8), (.adc, .c, 0x84#8), (.add, .d, 0x85#8),
   (.ade, .e, 0x86#8), (.adm, .m, 0x87#8)]

/-- ACr (R163). -/
def acForms : List (Instr × Reg8 × Byte) :=
  [(.ach, .h, 0x89#8), (.acl, .l, 0x8A#8), (.acb, .b, 0x8B#8), (.acc, .c, 0x8C#8), (.acd, .d, 0x8D#8),
   (.ace, .e, 0x8E#8), (.acm, .m, 0x8F#8)]

/-- SUr (R165). -/
def suForms : List (Instr × Reg8 × Byte) :=
  [(.suh, .h, 0x91#8), (.sul, .l, 0x92#8), (.sub, .b, 0x93#8), (.suc, .c, 0x94#8), (.sud, .d, 0x95#8),
   (.sue, .e, 0x96#8), (.sum, .m, 0x97#8)]

/-- SCr (R167). -/
def scForms : List (Instr × Reg8 × Byte) :=
  [(.sch, .h, 0x99#8), (.scl, .l, 0x9A#8), (.scb, .b, 0x9B#8), (.scc, .c, 0x9C#8), (.scd, .d, 0x9D#8),
   (.sce, .e, 0x9E#8), (.scm, .m, 0x9F#8)]

/-- CPr (R170). -/
def cpForms : List (Instr × Reg8 × Byte) :=
  [(.cph, .h, 0xA1#8), (.cpl, .l, 0xA2#8), (.cpb, .b, 0xA3#8), (.cpc, .c, 0xA4#8), (.cpd, .d, 0xA5#8),
   (.cpe, .e, 0xA6#8), (.cpm, .m, 0xA7#8)]

/-- ANr (R172). -/
def anForms : List (Instr × Reg8 × Byte) :=
  [(.anh, .h, 0xA9#8), (.anl, .l, 0xAA#8), (.anb, .b, 0xAB#8), (.anc, .c, 0xAC#8), (.and, .d, 0xAD#8),
   (.ane, .e, 0xAE#8), (.anm, .m, 0xAF#8)]

/-- ORr (R174). -/
def orForms : List (Instr × Reg8 × Byte) :=
  [(.orh, .h, 0xB1#8), (.orl, .l, 0xB2#8), (.orb, .b, 0xB3#8), (.orc, .c, 0xB4#8), (.ord, .d, 0xB5#8),
   (.ore, .e, 0xB6#8), (.orm, .m, 0xB7#8)]

/-- XRr (R176). -/
def xrForms : List (Instr × Reg8 × Byte) :=
  [(.xrh, .h, 0xB9#8), (.xrl, .l, 0xBA#8), (.xrb, .b, 0xBB#8), (.xrc, .c, 0xBC#8), (.xrd, .d, 0xBD#8),
   (.xre, .e, 0xBE#8), (.xrm, .m, 0xBF#8)]

/-- SWr (R224). -/
def swForms : List (Instr × Reg8 × Byte) :=
  [(.swh, .h, 0x09#8), (.swl, .l, 0x0A#8), (.swb, .b, 0x0B#8), (.swc, .c, 0x0C#8), (.swd, .d, 0x0D#8),
   (.swe, .e, 0x0E#8), (.swm, .m, 0x0F#8)]

/-- TrA (R226). -/
def trAForms : List (Instr × Reg8 × Byte) :=
  [(.tha, .h, 0x21#8), (.tla, .l, 0x22#8), (.tba, .b, 0x23#8), (.tca, .c, 0x24#8), (.tda, .d, 0x25#8),
   (.tea, .e, 0x26#8), (.tma, .m, 0x27#8)]

/-- TAr (R227). -/
def tArForms : List (Instr × Reg8 × Byte) :=
  [(.tah, .h, 0x29#8), (.tal, .l, 0x2A#8), (.tab, .b, 0x2B#8), (.tac, .c, 0x2C#8), (.tad, .d, 0x2D#8),
   (.tae, .e, 0x2E#8), (.tam, .m, 0x2F#8)]

/-- PLr (R228). -/
def plForms : List (Instr × Reg8 × Byte) :=
  [(.pla, .a, 0x30#8), (.plh, .h, 0x31#8), (.pll, .l, 0x32#8), (.plb, .b, 0x33#8), (.plc, .c, 0x34#8),
   (.pld, .d, 0x35#8), (.ple, .e, 0x36#8), (.plm, .m, 0x37#8)]

/-- PHr (R229). -/
def phForms : List (Instr × Reg8 × Byte) :=
  [(.pha, .a, 0x38#8), (.phh, .h, 0x39#8), (.phl, .l, 0x3A#8), (.phb, .b, 0x3B#8), (.phc, .c, 0x3C#8),
   (.phd, .d, 0x3D#8), (.phe, .e, 0x3E#8), (.phm, .m, 0x3F#8)]

/-- JfC: each instruction, its flag and its opcode byte (R282). -/
def jfcForms : List ((Word → Instr) × FlagName × Byte) :=
  [(.jsc, .s, 0x60#8), (.jzc, .z, 0x61#8), (.jvc, .v, 0x62#8), (.jic, .i, 0x63#8), (.jtc, .t, 0x64#8),
   (.jpc, .p, 0x65#8), (.jhc, .h, 0x66#8), (.jcc, .c, 0x67#8)]

/-- JfS (R283). -/
def jfsForms : List ((Word → Instr) × FlagName × Byte) :=
  [(.jss, .s, 0x68#8), (.jzs, .z, 0x69#8), (.jvs, .v, 0x6A#8), (.jis, .i, 0x6B#8), (.jts, .t, 0x6C#8),
   (.jps, .p, 0x6D#8), (.jhs, .h, 0x6E#8), (.jcs, .c, 0x6F#8)]

/-- The undefined opcode bytes, as R140 lists them. -/
def undefinedOpcodes : List Byte :=
  [0x06#8, 0x07#8, 0x11#8, 0x12#8, 0x13#8, 0x14#8, 0x15#8, 0x16#8, 0x17#8, 0x19#8, 0x1A#8, 0x1B#8, 0x1C#8, 0x1D#8,
   0x1E#8, 0x1F#8, 0x28#8, 0x52#8, 0x53#8, 0x54#8, 0x55#8, 0x56#8, 0x57#8, 0x58#8, 0x59#8, 0x5A#8, 0x5B#8, 0x5C#8,
   0x5D#8, 0x5E#8, 0x5F#8, 0x7A#8, 0xC6#8, 0xC7#8, 0xD6#8, 0xD7#8, 0xE6#8, 0xE7#8, 0xEE#8, 0xEF#8]

/-- The word at HL, where JMP M and JSR M read it (R285, R311). -/
def throughHl (s : State) : List Access :=
  if s.cfg.jmmIndirect then [readOf s.x.r0 .word] else []

/-- The accesses to data an instruction makes, in the order it makes them: the table of R81. -/
def dataAccesses (i : Instr) (s : State) : List Access :=
  match i with
  | .swm => [readOf s.x.r0 .byte, writeOf s.x.r0 .byte]
  | .tma | .adm | .acm | .sum | .scm | .cpm | .anm | .orm | .xrm => [readOf s.x.r0 .byte]
  | .tam => [writeOf s.x.r0 .byte]
  | .pla | .plh | .pll | .plb | .plc | .pld | .ple => [readOf s.sp .byte]
  | .plm => [readOf s.sp .byte, writeOf s.x.r0 .byte]
  | .pha | .phh | .phl | .phb | .phc | .phd | .phe => [writeOf (s.sp - 1#16) .byte]
  | .phm => [readOf s.x.r0 .byte, writeOf (s.sp - 1#16) .byte]
  | .lda k => [readOf k .byte]
  | .sta k => [writeOf k .byte]
  | .lrK _ k | .lfk _ k => [readOf k .word]
  | .srK _ k | .sfk _ k => [writeOf k .word]
  | .pshR _ | .pshF _ | .jsr _ | .nmi | .trp => [writeOf (s.sp - 2#16) .word]
  | .pulR _ | .pulF _ | .ret | .rfi => [readOf s.sp .word]
  | .trR _ r | .trF _ r => readsM r s
  | .tRr r _ | .tFr r _ => writesM r s
  | .jmm => throughHl s
  | .jsm => throughHl s ++ [writeOf (s.sp - 2#16) .word]
  | .irq => if s.flag.i then [writeOf (s.sp - 2#16) .word] else []
  | .stmMr _ => [writeOf s.x.r0 .word]
  | .ldmRm _ => [readOf s.x.r0 .word]
  | .swpFk _ k => [readOf k .word, writeOf k .word]
  | _ => []

/-- The arithmetic of two words, with and without carry: constructor of the 16RR form, its opcode, constructor of the
16RK form, its opcode, and what it computes (R345 to R348, R380 to R383). -/
def sumForms : List ((Reg16 → Reg16 → Instr) × Byte × (Reg16 → Word → Instr) × Byte × (Word → Word → Flags → Word × Flags)) :=
  [(.addRr, 0xC8#8, .addRk, 0xD8#8, fun a b f => add a b false f),
   (.adcRr, 0xC9#8, .adcRk, 0xD9#8, fun a b f => add a b f.c f),
   (.subRr, 0xCA#8, .subRk, 0xDA#8, fun a b f => sub a b false f),
   (.sbcRr, 0xCB#8, .sbcRk, 0xDB#8, fun a b f => sub a b f.c f)]

/-- Logic and multiplication on words (R350 to R352, R385 to R387, R390, R391). -/
def logicForms : List ((Reg16 → Reg16 → Instr) × Byte × (Reg16 → Word → Instr) × Byte × (Word → Word → Word)) :=
  [(.andRr, 0xCD#8, .andRk, 0xDD#8, fun a b => a &&& b), (.orrRr, 0xCE#8, .orrRk, 0xDE#8, fun a b => a ||| b),
   (.xorRr, 0xCF#8, .xorRk, 0xDF#8, fun a b => a ^^^ b),
   (.mulRr, 0xE0#8, .muk, 0xE1#8, fun a b => BitVec.ofNat 16 (a.toNat * b.toNat % 65536))]

/-- The float operations on two registers (R445, R447 to R451). -/
def floatPairForms : List ((FReg → FReg → Instr) × Byte × (Word → Word → Word)) :=
  [(.addFf, 0xE8#8, Config.fadd), (.mulFf, 0xE9#8, Config.fmul), (.subFf, 0xEA#8, Config.fsub),
   (.divFf, 0xEB#8, Config.fdiv), (.modFf, 0xED#8, Config.fmod), (.powFf, 0xFE#8, Config.fpow)]

/-- The float operations with a constant (R463 to R466, R468). -/
def floatConstForms : List ((FReg → Word → Instr) × Byte × (Word → Word → Word)) :=
  [(.addFk, 0xF8#8, Config.fadd), (.mulFk, 0xF9#8, Config.fmul), (.subFk, 0xFA#8, Config.fsub),
   (.divFk, 0xFB#8, Config.fdiv), (.modFk, 0xFD#8, Config.fmod)]

/-- The float operations on one register (R473 to R480). -/
def floatUnaryForms : List ((FReg → Instr) × Byte × (Word → Word)) :=
  [(.inv, 0xF0#8, Config.finv), (.srt, 0xF1#8, Config.fsqrt), (.irt, 0xF2#8, Config.firt), (.sin, 0xF3#8, Config.fsin),
   (.cos, 0xF4#8, Config.fcos), (.tan, 0xF5#8, Config.ftan), (.abs, 0xF6#8, Config.fabs), (.negF, 0xF7#8, Config.fneg)]

/-- The relational jumps: opcode, the condition on the flags, and the relation of two signed numbers it stands for
(R286 to R292). -/
def relationForms : List ((Word → Instr) × Byte × (Flags → Bool) × (Int → Int → Bool)) :=
  [(.jne, 0x72#8, fun f => decide (f.z = false), fun a b => decide (a ≠ b)),
   (.jeq, 0x73#8, fun f => decide (f.z = true), fun a b => decide (a = b)),
   (.jlt, 0x74#8, fun f => decide (f.s ≠ f.v), fun a b => decide (a < b)),
   (.jle, 0x75#8, fun f => decide (f.z = true ∨ f.s ≠ f.v), fun a b => decide (a ≤ b)),
   (.jgt, 0x76#8, fun f => decide (f.z = false ∧ f.s = f.v), fun a b => decide (a > b)),
   (.jge, 0x77#8, fun f => decide (f.s = f.v), fun a b => decide (a ≥ b))]

/-! ## Overflow -/

/-- The outcome is a next state in which V says that the exact sum lies outside the signed numbers of the width, and C
that it lies outside the unsigned ones (R187, R397). -/
def ReportsSum {w : Nat} (a b : BitVec w) (cin : Bool) (r : Res State) : Prop :=
  ∃ t, r = .next t ∧
    (t.flag.v = true ↔
      a.toInt + b.toInt + cin.toNat < -2 ^ (w - 1) ∨ 2 ^ (w - 1) ≤ a.toInt + b.toInt + cin.toNat) ∧
    (t.flag.c = true ↔ 2 ^ w ≤ a.toNat + b.toNat + cin.toNat)

/-- The same of a difference, which is outside the unsigned numbers where it is below 0. -/
def ReportsDifference {w : Nat} (a b : BitVec w) (bin : Bool) (r : Res State) : Prop :=
  ∃ t, r = .next t ∧
    (t.flag.v = true ↔
      a.toInt - b.toInt - bin.toNat < -2 ^ (w - 1) ∨ 2 ^ (w - 1) ≤ a.toInt - b.toInt - bin.toNat) ∧
    (t.flag.c = true ↔ a.toNat < b.toNat + bin.toNat)

/-! ## What every instruction may do -/

/-- The flags an instruction leaves as they were: the table of R46. -/
def flagsKept (i : Instr) : List FlagName :=
  match i with
  | .adi _ | .adh | .adl | .adb | .adc | .add | .ade | .adm | .aci _ | .ach | .acl | .acb | .acc | .acd | .ace
  | .acm | .sui _ | .suh | .sul | .sub | .suc | .sud | .sue | .sum | .sci _ | .sch | .scl | .scb | .scc | .scd
  | .sce | .scm | .cpi _ | .cph | .cpl | .cpb | .cpc | .cpd | .cpe | .cpm | .neg | .addRr _ _ | .adcRr _ _
  | .subRr _ _ | .sbcRr _ _ | .cmpRr _ _ | .negR _ | .addRk _ _ | .adcRk _ _ | .subRk _ _ | .sbcRk _ _
  | .cmpRk _ _ => [.i, .t]
  | .ani _ | .anh | .anl | .anb | .anc | .and | .ane | .anm | .ori _ | .orh | .orl | .orb | .orc | .ord | .ore
  | .orm | .xri _ | .xrh | .xrl | .xrb | .xrc | .xrd | .xre | .xrm | .com | .andRr _ _ | .orrRr _ _
  | .xorRr _ _ | .comR _ | .andRk _ _ | .orrRk _ _ | .xorRk _ _ | .mulRr _ _ | .muk _ _ | .divRr _ _ | .dik _ _
  | .modRr _ _ | .mok _ _ => [.v, .i, .t, .h, .c]
  | .asl | .asr | .rol | .ror | .aslR _ | .asrR _ | .rolR _ | .rorR _ => [.v, .i, .t, .h]
  | .cmpFf _ _ | .cmpFk _ _ => [.i, .t, .p, .h, .c]
  | .sfi | .cfi | .rfi | .irq | .nmi | .trp => [.s, .z, .v, .t, .p, .h, .c]
  | .sft | .cft => [.s, .z, .v, .i, .p, .h, .c]
  | .exr => []
  | _ => [.s, .z, .v, .i, .t, .p, .h, .c]

/-- Where SP is after an instruction (R31, R88 to R91). -/
def spAfter (i : Instr) (s : State) : Word :=
  match i with
  | .pha | .phh | .phl | .phb | .phc | .phd | .phe | .phm => s.sp - 1#16
  | .pla | .plh | .pll | .plb | .plc | .pld | .ple | .plm => s.sp + 1#16
  | .pshR _ | .pshF _ | .jsr _ | .jsm | .nmi | .trp => s.sp - 2#16
  | .irq => if s.flag.i then s.sp - 2#16 else s.sp
  | .pulR _ | .pulF _ | .ret | .rfi => s.sp + 2#16
  | _ => s.sp

/-- The divisor of an integer division, where the instruction is one (R392 to R395). -/
def divisor (i : Instr) (s : State) : Option Word :=
  match i with
  | .divRr _ r | .modRr _ r => some (s.x.get r)
  | .dik _ k | .mok _ k => some k
  | _ => none

/-- The kind of trap an instruction takes, where it takes one (R492). -/
def trapTaken (i : Instr) (s : State) : Option TrapKind :=
  match i with
  | .irq => if s.flag.i then some .irq else none
  | .nmi => some .nmi
  | .trp => some .trp
  | _ => none

/-- No fault and no refusal is due (R491): the divisor is not zero, the vector is supplied, every access to data is
let through, and the instruction is not BDS. -/
def Clear (i : Instr) (s : State) : Prop :=
  i ≠ .bds ∧ divisor i s ≠ some 0#16 ∧ (∀ k, trapTaken i s = some k → vectorOf s.cfg k ≠ none) ∧
    ∀ q ∈ dataAccesses i s, allows s.cfg q = true

/-! ## Chains of bytes -/

/-- A number from its bytes, the lowest first. -/
def number (l : List Byte) : Nat :=
  match l with
  | [] => 0
  | b :: rest => b.toNat + 256 * number rest

/-- Each pair in turn, the first with the instruction `first` and the others with `next`: the pair's first byte is put
into A and the instruction is executed with its second byte. Answers the bytes A held afterwards, and the last state. -/
def chained (first next : Byte → Instr) (l : List (Byte × Byte)) (s : State) : Res (List Byte × State) :=
  match l with
  | [] => .next ([], s)
  | p :: rest =>
    andThen (exec (first p.2) { s with a := p.1 }) fun t =>
      andThen (chained next next rest t) fun r => .next (t.a :: r.1, r.2)

/-- No `ENC_` parameter is supplied: the default (R146). -/
def NoParameterEncodings (cfg : Config) : Prop :=
  cfg.encTpc = none ∧ cfg.encExf = none ∧ cfg.encStmm = none ∧ cfg.encLdmm = none ∧ cfg.encTrk = none ∧
    cfg.encTfk = none ∧ cfg.encSwfk = none

/-- The next step will fetch: the machine runs and no external request is taken at this boundary. -/
def AboutToFetch (s : State) : Prop := s.status = .running ∧ takenRequest s = none

/-- The read of one byte of an instruction (R86). -/
def fetchOf (addr : Word) : Access := ⟨addr, .byte, .read, .fetch⟩

/-- The bytes stand in memory from an address on, wrapping after 0xFFFF (R48, R86). -/
def HoldsAt (m : Memory) (addr : Word) (bytes : List Byte) : Prop :=
  match bytes with
  | [] => True
  | b :: rest => m.read addr = b ∧ HoldsAt m (addr + 1#16) rest

/-- Some instruction the configured machine has begins with this opcode byte. -/
def IsOpcode (cfg : Config) (b : Byte) : Prop :=
  ∃ i bytes, i.wellFormed cfg = true ∧ encode cfg i = some (b :: bytes)

/-- The opcode bytes `first` to `last`, both included. -/
def span (first last : Nat) : List Byte := (List.range (last + 1 - first)).map fun n => BitVec.ofNat 8 (first + n)

/-- The opcode bytes whose first variant it is: the table of R145. -/
def opcodesFrom (v : Variant) : List Byte :=
  match v with
  | .v8042 =>
    span 0x00 0x05 ++ [0x08#8, 0x10#8, 0x18#8, 0x20#8] ++ span 0x60 0x79 ++ span 0x7B 0x7F ++ span 0xC0 0xC5 ++
      [0xFF#8, 0x09#8, 0x0A#8, 0x0F#8, 0x21#8, 0x22#8, 0x27#8, 0x29#8, 0x2A#8, 0x2F#8, 0x30#8, 0x31#8, 0x32#8,
       0x37#8, 0x38#8, 0x39#8, 0x3A#8, 0x3F#8, 0x80#8, 0x81#8, 0x82#8, 0x87#8, 0x88#8, 0x89#8, 0x8A#8, 0x8F#8,
       0x90#8, 0x91#8, 0x92#8, 0x97#8, 0x98#8, 0x99#8, 0x9A#8, 0x9F#8, 0xA0#8, 0xA1#8, 0xA2#8, 0xA7#8, 0xA8#8,
       0xA9#8, 0xAA#8, 0xAF#8, 0xB0#8, 0xB1#8, 0xB2#8, 0xB7#8, 0xB8#8, 0xB9#8, 0xBA#8, 0xBF#8]
  | .v8842 =>
    span 0x0B 0x0E ++ span 0x23 0x26 ++ span 0x2B 0x2E ++ span 0x33 0x36 ++ span 0x3B 0x3E ++ span 0x83 0x86 ++
      span 0x8B 0x8E ++ span 0x93 0x96 ++ span 0x9B 0x9E ++ span 0xA3 0xA6 ++ span 0xAB 0xAE ++ span 0xB3 0xB6 ++
      span 0xBB 0xBE
  | .v80142 =>
    span 0x40 0x43 ++ span 0x48 0x4A ++ [0x50#8] ++ span 0xC8 0xCF ++ span 0xD0 0xD5 ++ span 0xD8 0xDF ++
      span 0xE0 0xE5
  | .v80143 => span 0x44 0x47 ++ span 0x4B 0x4F ++ [0x51#8] ++ span 0xE8 0xED ++ span 0xF0 0xFE

/-- The opcode bytes of a variant: it has everything the smaller ones have (R2, R145). -/
def opcodesOf (v : Variant) : List Byte :=
  match v with
  | .v8042 => opcodesFrom .v8042
  | .v8842 => opcodesFrom .v8042 ++ opcodesFrom .v8842
  | .v80142 => opcodesFrom .v8042 ++ opcodesFrom .v8842 ++ opcodesFrom .v80142
  | .v80143 => opcodesFrom .v8042 ++ opcodesFrom .v8842 ++ opcodesFrom .v80142 ++ opcodesFrom .v80143

/-- A flag's code (R121). -/
def flagCode (n : FlagName) : Byte :=
  match n with
  | .s => 0#8
  | .z => 1#8
  | .v => 2#8
  | .i => 3#8
  | .t => 4#8
  | .p => 5#8
  | .h => 6#8
  | .c => 7#8

/-! ## Accesses that are denied -/

/-- `MEM_MAP` denies an access: a byte it touches is absent, or is rom and the access writes (R82, R83). -/
def Denied (cfg : Config) (q : Access) : Prop :=
  ∃ a ∈ q.touched, memKind cfg a = .absent ∨ (memKind cfg a = .rom ∧ q.dir = .write)

/-- The accesses are checked in this order, and the first one `MEM_MAP` denies is the fault (R499). -/
def FaultsInOrder (i : Instr) (accesses : State → List Access) : Prop :=
  ∀ (s : State) (before : List Access) (q : Access) (after : List Access), accesses s = before ++ q :: after →
    (∀ p ∈ before, allows s.cfg p = true) → Denied s.cfg q → exec i s = .fault (.accessFault q)

/-! ## Shapes of rules -/

/-- The constant form of an 8-bit operation on A: opcode `op` and the constant; result, flags and pc (R178). -/
def ConstantForm (mk : Byte → Instr) (op : Byte) (f : Byte → Byte → Flags → Byte × Flags) : Prop :=
  ∀ (k : Byte) (s : State), Encodes (mk k) [op, k] ∧ exec (mk k) s = .next (toA (f s.a k s.flag) 2#16 s)

/-- The register forms: the code in the low bits of the opcode `op`, the operand read at HL where it is M, the fault if
that read is denied; result, flags and pc (R178). -/
def RegisterForms (forms : List (Instr × Reg8 × Byte)) (op : Byte) (f : Byte → Byte → Flags → Byte × Flags) : Prop :=
  ∀ e ∈ forms,
    e.2.2 = op + e.2.1.code ∧ Encodes e.1 [e.2.2] ∧ FaultsInOrder e.1 (readsM e.2.1) ∧
      ∀ s : State, readable8 e.2.1 s → exec e.1 s = .next (toA (f s.a (value8 e.2.1 s) s.flag) 1#16 s)

/-- What `Trap(kind)` leaves (R500): SP down by 2, the return address in the two bytes at SP, I cleared, pc at the
vector, running; nothing else is changed. -/
def Entered (vector ret : Word) (s t : State) : Prop :=
  t = { s with sp := s.sp - 2#16, mem := t.mem, flag := { s.flag with i := false }, pc := vector, status := .running } ∧
    Stores16 s.cfg.byteOrder s.mem t.mem (s.sp - 2#16) ret

/-- A word pushed and pc past an instruction of `n` bytes (R90). -/
def Pushed (v : Word) (n : Word) (s t : State) : Prop :=
  t = { s with sp := s.sp - 2#16, mem := t.mem, pc := s.pc + n } ∧
    Stores16 s.cfg.byteOrder s.mem t.mem (s.sp - 2#16) v

/-- The state after a `next`, changed; a stop stays as it is. -/
def onNext (g : State → State) (r : Res State) : Res State :=
  match r with
  | .next t => .next (g t)
  | .fault e => .fault e
  | .refused e => .refused e

/-- A state with other contents in the shadow registers (R43). -/
def withShadows (a : Byte) (fl : Flags) (x : Regs) (f : FRegs) (s : State) : State :=
  { s with shadowA := a, shadowFlag := fl, shadowX := x, shadowF := f }

/-- A state with another T flag. -/
def withT (v : Bool) (s : State) : State := { s with flag := { s.flag with t := v } }

/-- A register of the variant (R36 to R38). -/
def hasReg (v : Variant) (r : Reg16) : Bool :=
  match r with
  | .r0 => true
  | .r1 | .r2 => decide (v ≠ .v8042)
  | .r3 | .r4 | .r5 | .r6 | .r7 => decide (v = .v80142 ∨ v = .v80143)

/-- The registers of the variant from one file, the others from another. -/
def mixed (v : Variant) (own other : Regs) : Regs where
  r0 := if hasReg v .r0 then own.r0 else other.r0
  r1 := if hasReg v .r1 then own.r1 else other.r1
  r2 := if hasReg v .r2 then own.r2 else other.r2
  r3 := if hasReg v .r3 then own.r3 else other.r3
  r4 := if hasReg v .r4 then own.r4 else other.r4
  r5 := if hasReg v .r5 then own.r5 else other.r5
  r6 := if hasReg v .r6 then own.r6 else other.r6
  r7 := if hasReg v .r7 then own.r7 else other.r7

/-- A state with other contents in every register its variant lacks (R42). -/
def withAbsent (x sx : Regs) (f sf : FRegs) (s : State) : State :=
  { s with
    x := mixed s.cfg.variant s.x x
    shadowX := mixed s.cfg.variant s.shadowX sx
    f := if s.cfg.variant = .v80143 then s.f else f
    shadowF := if s.cfg.variant = .v80143 then s.shadowF else sf }

/-- The run status after an instruction (R44). -/
def statusAfter (i : Instr) (s : State) : Status :=
  match i with
  | .hlt => .halted
  | .wfi => .waiting
  | .nmi | .trp => .running
  | .irq => if s.flag.i then .running else s.status
  | _ => s.status

/-- The quotient of R396 with `DIV_SIGNED`: the magnitudes divided, negative where the signs differ. -/
def signedQuotient (a b : Word) : Word :=
  if (a.toInt < 0) ↔ (b.toInt < 0) then BitVec.ofNat 16 (a.toInt.natAbs / b.toInt.natAbs)
  else BitVec.ofInt 16 (-((a.toInt.natAbs / b.toInt.natAbs : Nat) : Int))

/-- The remainder of R396 with `DIV_SIGNED`: of the magnitudes, with the sign of the dividend. -/
def signedRemainder (a b : Word) : Word :=
  if a.toInt < 0 then BitVec.ofInt 16 (-((a.toInt.natAbs % b.toInt.natAbs : Nat) : Int))
  else BitVec.ofNat 16 (a.toInt.natAbs % b.toInt.natAbs)

/-- `FLOAT.xfer_in` (R431). -/
def intoFloat (cfg : Config) (v : Word) : Word := if cfg.xferIn = .identity then v else Config.xferInFn v

/-- `FLOAT.xfer_out` (R431). -/
def outOfFloat (cfg : Config) (v : Word) : Word := if cfg.xferOut = .identity then v else Config.xferOutFn v

/-- The row of R446's table: S, Z and V for a result of `fcmp`. -/
def floatFlags (r : FloatOrder) (f : Flags) : Flags :=
  { f with s := decide (r = .lt), z := decide (r = .eq), v := decide (r = .unordered) }

/-- Whether the relational jumps are taken after a float compare (R446): opcode by opcode as in `relationForms`. -/
def floatTaken : List ((Word → Instr) × (FloatOrder → Bool)) :=
  [(.jne, fun r => decide (r ≠ .eq)), (.jeq, fun r => decide (r = .eq)),
   (.jlt, fun r => decide (r = .lt ∨ r = .unordered)),
   (.jle, fun r => decide (r = .lt ∨ r = .eq ∨ r = .unordered)), (.jgt, fun r => decide (r = .gt)),
   (.jge, fun r => decide (r = .gt ∨ r = .eq)), (.jvs, fun r => decide (r = .unordered))]

end Sys2Proof.Claims

open Sys2Proof Sys2Proof.Machine Sys2Proof.Claims


/-! ## Decoding and encoding -/

/-- R147: the encoding of every instruction the configured machine has decodes to it, whatever follows, with every
operand at every value. That the supplied `ENC_` bytes do not collide is the model's premise (notes/assumptions/13.md). -/
def Obligations.DecodeEncodeRoundTrip : Prop :=
  ∀ (cfg : Config) (i : Instr) (rest : List Byte), encodingsDistinct cfg = true → i.wellFormed cfg = true →
    ∃ bytes, encode cfg i = some bytes ∧ bytes.length = i.length ∧ decode cfg (bytes ++ rest) = .ok (i, rest)

/-- Whatever decodes is the encoding of an instruction the configured machine has: no reserved bit is ignored (R142),
no smaller variant runs a larger one's instruction (R145). -/
def Obligations.DecodedBytesAreTheEncoding : Prop :=
  ∀ (cfg : Config) (bytes rest : List Byte) (i : Instr), decode cfg bytes = .ok (i, rest) →
    i.wellFormed cfg = true ∧ ∃ enc, encode cfg i = some enc ∧ bytes = enc ++ rest

/-- R143, R142: bytes at pc that begin with no instruction's encoding stop the step with `UndefinedInstruction`, which
carries the register byte when the opcode byte is defined (premise on the `ENC_` bytes: notes/assumptions/13.md). -/
def Obligations.UndefinedBytesFault : Prop :=
  ∀ s : State, AboutToFetch s → encodingsDistinct s.cfg = true →
    (∀ n : Nat, n < 4 → allows s.cfg (fetchOf (s.pc + BitVec.ofNat 16 n)) = true) →
    (∀ i bytes, i.wellFormed s.cfg = true → encode s.cfg i = some bytes → ¬ HoldsAt s.mem s.pc bytes) →
      (¬ IsOpcode s.cfg (s.mem.read s.pc) →
        step s = .fault (.undefinedInstruction s.pc (s.mem.read s.pc) none)) ∧
      (IsOpcode s.cfg (s.mem.read s.pc) →
        step s = .fault (.undefinedInstruction s.pc (s.mem.read s.pc) (some (s.mem.read (s.pc + 1#16)))))

/-- R140 and R145: which opcode bytes each variant has; forty of the 256 select no instruction in any; and the first
variant of each instruction without an opcode byte, with every operand. -/
def Obligations.OpcodesOfEachVariant : Prop :=
  (∀ (cfg : Config) (b : Byte), NoParameterEncodings cfg → (IsOpcode cfg b ↔ b ∈ opcodesOf cfg.variant)) ∧
  (∀ b : Byte, b ∈ undefinedOpcodes ↔ b ∉ opcodesOf .v80143) ∧ undefinedOpcodes.length = 40 ∧
  (∀ (r : Reg16) (k : Word), ∀ i ∈ [Instr.tpc, .stmMr r, .ldmRm r, .traRk r k], i.firstVariant = .v80142) ∧
  (∀ (f : FReg) (k : Word), ∀ i ∈ [Instr.exf, .traFk f k, .swpFk f k], i.firstVariant = .v80143)

/-- The rows of the decode table of spec/95_test_vectors.md, section 2.17. -/
def Obligations.SampleBytesDecode : Prop :=
  ∀ r ∈ ([([0x00#8], .nop), ([0x0F#8], .swm), ([0x20#8, 0x7F#8], .tri 0x7F#8), ([0x10#8, 0x12#8, 0x34#8], .lda 0x1234#16),
      ([0x67#8, 0xFF#8, 0xF9#8], .jcc 0xFFF9#16), ([0x71#8], .jmm), ([0x48#8, 0x34#8], .tRR .r3 .r4),
      ([0x49#8, 0x32#8], .trR .r3 .l), ([0x4A#8, 0x03#8], .tRr .a .r3), ([0x4C#8, 0x03#8], .tRF .f0 .r3),
      ([0x42#8, 0x03#8], .pshR .r3), ([0xD0#8, 0x07#8], .aslR .r7), ([0x40#8, 0x03#8, 0x02#8, 0x00#8], .lrK .r3 0x0200#16),
      ([0xDC#8, 0x03#8, 0xFF#8, 0xFF#8], .cmpRk .r3 0xFFFF#16), ([0x44#8, 0x01#8, 0x03#8, 0x00#8], .lfk .f1 0x0300#16),
      ([0xF0#8, 0x01#8], .inv .f1), ([0xFE#8, 0x12#8], .powFf .f1 .f2), ([0xFF#8], .trp)] : List (List Byte × Instr)),
    decode Config.reference r.1 = .ok (r.2, [])

/-! ## The step -/

/-- R86, R498: where the bytes at pc are an instruction's encoding and may be read, the step is that instruction, with
the boundary's offer gone. -/
def Obligations.StepRunsDecodedInstruction : Prop :=
  ∀ (s : State) (i : Instr) (bytes : List Byte), AboutToFetch s → encodingsDistinct s.cfg = true →
    i.wellFormed s.cfg = true → encode s.cfg i = some bytes → HoldsAt s.mem s.pc bytes →
    (∀ n : Nat, n < bytes.length → allows s.cfg (fetchOf (s.pc + BitVec.ofNat 16 n)) = true) →
      step s = exec i { s with events := s.events.tail }

/-- R499, points 2 to 4: the opcode byte's access is checked before the byte is looked at, an undefined opcode byte
before any operand byte is read, and the operand bytes' accesses in increasing address order. -/
def Obligations.FetchFaultOrder : Prop :=
  ∀ s : State, AboutToFetch s → encodingsDistinct s.cfg = true →
    (Denied s.cfg (fetchOf s.pc) → step s = .fault (.accessFault (fetchOf s.pc))) ∧
    (allows s.cfg (fetchOf s.pc) = true → ¬ IsOpcode s.cfg (s.mem.read s.pc) →
      step s = .fault (.undefinedInstruction s.pc (s.mem.read s.pc) none)) ∧
    (∀ (i : Instr) (operands : List Byte) (n : Nat), i.wellFormed s.cfg = true →
      encode s.cfg i = some (s.mem.read s.pc :: operands) → 1 ≤ n → n ≤ operands.length →
      (∀ m : Nat, m < n → allows s.cfg (fetchOf (s.pc + BitVec.ofNat 16 m)) = true) →
      Denied s.cfg (fetchOf (s.pc + BitVec.ofNat 16 n)) →
        step s = .fault (.accessFault (fetchOf (s.pc + BitVec.ofNat 16 n))))

/-- R496, R320: a non-maskable request is always taken, and first; a maskable one is taken if I is 1 and otherwise
discarded; a taken one is `Trap` with the current pc as return address. What a step does with the stream is the model's
choice: that it passes one boundary of it and drops the maskable one of two offers taken together
(notes/assumptions/9.md, DESIGN CHOICE), and that a waiting machine with nothing taken answers a next state
(notes/assumptions/7.md, DEDUCED). -/
def Obligations.ExternalRequests : Prop :=
  ∀ s : State, s.status ≠ .halted →
    let o := s.events.head
    let passed := { s with events := s.events.tail }
    (o.nmi = true → step s = trap .extNmi passed) ∧
    (o.nmi = false → o.irq = true → s.flag.i = true → step s = trap .extIrq passed) ∧
    (o.nmi = false → o.irq = true → s.flag.i = false → step s = step { s with events := .offer .quiet s.events.tail }) ∧
    (o.nmi = false → o.irq = false → s.status = .waiting → step s = .next passed)

/-- R98: a byte stored by STA is what the fetch of the very next instruction reads. -/
def Obligations.StoredByteIsFetchedNext : Prop :=
  ∀ (s : State) (i : Instr) (op : Byte), AboutToFetch s → encodingsDistinct s.cfg = true →
    i.wellFormed s.cfg = true → encode s.cfg i = some [op] → s.a = op →
    allows s.cfg (writeOf (s.pc + 3#16) .byte) = true → allows s.cfg (fetchOf (s.pc + 3#16)) = true →
      ∃ t, exec (.sta (s.pc + 3#16)) s = .next t ∧ step t = exec i { t with events := t.events.tail }

/-! ## Invariants and what no instruction does -/

/-- Every step keeps memory in its canonical form, the model's representation of R82's function: what is equal to every
reader is equal data. -/
def Obligations.StepKeepsInvariant : Prop :=
  ∀ s t : State, Inv s → step s = .next t → Inv t

/-- The machine after reset meets the invariant. -/
def Obligations.ResetMeetsInvariant : Prop := Inv State.reset

/-- R50, R540, R543: what a launch gives, for every platform, image and draw of the unspecified registers; and that
`State.reset` is one of them (its parameters and its draw are the model's choice: notes/assumptions/2.md, 3.md). The
clause that the last byte given for an address stands is the model's choice as well, on which R543 says nothing
(notes/assumptions/18.md). -/
def Obligations.LaunchState : Prop :=
  (∀ (cfg : Config) (d : Draw) (image : List (Word × Byte)) (offers : EventStream),
    (cfg.resetPc = none → launch cfg d image offers = .refused .resetPcNotSupplied) ∧
    (∀ pc, cfg.resetPc = some pc → (∃ c ∈ image, memKind cfg c.1 = .absent) →
      ∃ a, launch cfg d image offers = .refused (.imageOnAbsent a)) ∧
    (∀ pc, cfg.resetPc = some pc → (∀ c ∈ image, memKind cfg c.1 ≠ .absent) →
      ∃ s, launch cfg d image offers = .next s ∧ s.pc = pc ∧ (∀ v, cfg.resetSp = some v → s.sp = v) ∧
        s.status = .running ∧ s.cfg = cfg ∧ s.events = offers ∧ Inv s ∧
        s.a = d.a ∧ s.flag = d.flag ∧ s.x = d.x ∧ s.f = d.f ∧
        s.shadowA = d.shadowA ∧ s.shadowFlag = d.shadowFlag ∧ s.shadowX = d.shadowX ∧ s.shadowF = d.shadowF ∧
        (∀ a v before after, image = before ++ (a, v) :: after → (∀ c ∈ after, c.1 ≠ a) → s.mem.read a = v))) ∧
  ∃ d, launch Config.reference d [] (.cycle []) = .next State.reset

/-- The parameters stay what they are, and each step passes one boundary of the event stream. Both clauses are about
fields the model chose to put into the state, where R49 and R497 make them no state: `cfg` (notes/assumptions/1.md,
DESIGN CHOICE) and `events` (notes/assumptions/9.md, DESIGN CHOICE). -/
def Obligations.StepKeepsParameters : Prop :=
  ∀ s t : State, step s = .next t → t.cfg = s.cfg ∧ t.events = s.events.tail

/-- R43: no instruction other than EXR and EXF reads or writes a shadow register: with other contents there it does the
same and leaves them there. -/
def Obligations.ShadowRegistersOnlyExchanged : Prop :=
  ∀ (i : Instr) (s : State) (a : Byte) (fl : Flags) (x : Regs) (f : FRegs), i ≠ .exr → i ≠ .exf →
    exec i (withShadows a fl x f s) = onNext (withShadows a fl x f) (exec i s)

/-- R35: T has no effect but on JTS and JTC, which test it, SFT and CFT, which write it, and EXR, which exchanges it. -/
def Obligations.TrapFlagHasNoEffect : Prop :=
  ∀ (i : Instr) (s : State) (v : Bool), i ≠ .sft → i ≠ .cft → i ≠ .exr → (∀ k, i ≠ .jts k ∧ i ≠ .jtc k) →
    exec i (withT v s) = onNext (withT v) (exec i s)

/-- R42: a register absent in the variant does not exist: no instruction the variant has reads it or writes it. That
inert fields stand for them is the model's choice (notes/assumptions/12.md). -/
def Obligations.AbsentRegistersDoNotExist : Prop :=
  ∀ (i : Instr) (s : State) (x sx : Regs) (f sf : FRegs), i.wellFormed s.cfg = true →
    exec i (withAbsent x sx f sf s) = onNext (withAbsent x sx f sf) (exec i s)

/-- The table of R46, column by column: the flags each instruction leaves as they were, I and T among them (R35). -/
def Obligations.FlagsKept : Prop :=
  ∀ (i : Instr) (s t : State), exec i s = .next t → ∀ n ∈ flagsKept i, flagOf n t.flag = flagOf n s.flag

/-- R31 and R44: SP is moved by the pushes, pulls, calls, returns and traps only, and the run status by HLT, WFI and
traps only. -/
def Obligations.StackPointerAndStatus : Prop :=
  ∀ (i : Instr) (s t : State), exec i s = .next t → t.sp = spAfter i s ∧ t.status = statusAfter i s

/-- R81: every byte of memory that is in no write of the table stays as it was. -/
def Obligations.MemoryFrame : Prop :=
  ∀ (i : Instr) (s t : State), exec i s = .next t →
    ∀ a : Word, (∀ q ∈ dataAccesses i s, q.dir = .write → a ∉ q.touched) → t.mem.read a = s.mem.read a

/-- R490, R491: an instruction completes exactly when no fault and no refusal is due: a divisor is not zero, a trap's
vector is supplied, and every access of R81's table is let through and reaches no device (that a device stops the
model is its choice: notes/assumptions/8.md). -/
def Obligations.CompletesExactlyWhenClear : Prop :=
  ∀ (i : Instr) (s : State), (∃ t, exec i s = .next t) ↔ Clear i s

/-- R499, points 7 and 8: the first access that is denied is the fault; a trap's vector is looked up before its push,
and a zero divisor faults. -/
def Obligations.InstructionFaultOrder : Prop :=
  (∀ (i : Instr) (s : State) (before : List Access) (q : Access) (after : List Access),
    (∀ k, trapTaken i s = some k → vectorOf s.cfg k ≠ none) → dataAccesses i s = before ++ q :: after →
    (∀ p ∈ before, allows s.cfg p = true) → Denied s.cfg q → exec i s = .fault (.accessFault q)) ∧
  (∀ (i : Instr) (s : State) (k : TrapKind), trapTaken i s = some k → vectorOf s.cfg k = none →
    exec i s = .fault (.vectorUnset k)) ∧
  (∀ (i : Instr) (s : State), divisor i s = some 0#16 → exec i s = .fault (.divideByZero s.pc))

/-! ## Memory, operands, stack -/

/-- R82, R83: what the four memory primitives give, when they fault, and where the model stops (a device, whose
behaviour the spec does not define: the refusal is the model's choice, notes/assumptions/8.md). -/
def Obligations.MemoryPrimitives : Prop :=
  (∀ (s : State) (addr : Word) (v : Byte) (w : Word),
    (allows s.cfg (readOf addr .byte) = true → memRead8 addr s = .next (s.mem.read addr)) ∧
    (allows s.cfg (readOf addr .word) = true → memRead16 addr s = .next (word s.cfg.byteOrder s.mem addr)) ∧
    (allows s.cfg (writeOf addr .byte) = true →
      ∃ t, memWrite8 addr v s = .next t ∧ t = { s with mem := t.mem } ∧ Stores8 s.mem t.mem addr v) ∧
    (allows s.cfg (writeOf addr .word) = true →
      ∃ t, memWrite16 addr w s = .next t ∧ t = { s with mem := t.mem } ∧
        Stores16 s.cfg.byteOrder s.mem t.mem addr w ∧ word s.cfg.byteOrder t.mem addr = w)) ∧
  (∀ (cfg : Config) (q : Access), q.touched = (if q.size = .byte then [q.addr] else [q.addr, q.addr + 1#16]) ∧
    (Denied cfg q → access cfg q = .fault (.accessFault q)) ∧
    (¬ Denied cfg q → (∃ a ∈ q.touched, memKind cfg a = .device) → ∃ a, access cfg q = .refused (.deviceAccess a)) ∧
    (allows cfg q = true ↔ ¬ Denied cfg q ∧ ∀ a ∈ q.touched, memKind cfg a ≠ .device) ∧
    (cfg.memMap = [] → allows cfg q = true))

/-- R40: the 8-bit operands are halves of the 16-bit registers and no storage of their own; M is the byte at HL. A write
of one register leaves the other six as they were, and M too unless it was H or L that was written. -/
def Obligations.OperandAccess : Prop :=
  ∀ (r : Reg8) (s : State),
    (readable8 r s → op8Read r s = .next (value8 r s)) ∧
    (∀ v, writable8 r s → ∃ t, op8Write r v s = .next t ∧ Writes8 r v s t) ∧
    (∀ v t, op8Write r v s = .next t → r ≠ .m → value8 r t = v ∧
      ∀ q, q ≠ r → (q = .m → r ≠ .h ∧ r ≠ .l) → value8 q t = value8 q s) ∧
    (∀ v : Word, value8 .h { s with x := s.x.set .r0 v } = high v ∧ value8 .l { s with x := s.x.set .r0 v } = low v ∧
      value8 .b { s with x := s.x.set .r1 v } = high v ∧ value8 .c { s with x := s.x.set .r1 v } = low v ∧
      value8 .d { s with x := s.x.set .r2 v } = high v ∧ value8 .e { s with x := s.x.set .r2 v } = low v)

/-- R88 to R91: the stack grows down, SP addresses the byte pushed last, a word lies on it in byte order. -/
def Obligations.StackPrimitives : Prop :=
  ∀ (s : State) (v : Byte) (w : Word),
    (allows s.cfg (writeOf (s.sp - 1#16) .byte) = true →
      ∃ t, push8 v s = .next t ∧ t = { s with sp := s.sp - 1#16, mem := t.mem } ∧ Stores8 s.mem t.mem (s.sp - 1#16) v) ∧
    (allows s.cfg (readOf s.sp .byte) = true → pull8 s = .next (s.mem.read s.sp, { s with sp := s.sp + 1#16 })) ∧
    (allows s.cfg (writeOf (s.sp - 2#16) .word) = true →
      ∃ t, push16 w s = .next t ∧ t = { s with sp := s.sp - 2#16, mem := t.mem } ∧
        Stores16 s.cfg.byteOrder s.mem t.mem (s.sp - 2#16) w ∧ word s.cfg.byteOrder t.mem t.sp = w ∧
        (s.cfg.byteOrder = .big → t.mem.read t.sp = high w ∧ t.mem.read (t.sp + 1#16) = low w)) ∧
    (allows s.cfg (readOf s.sp .word) = true →
      pull16 s = .next (word s.cfg.byteOrder s.mem s.sp, { s with sp := s.sp + 2#16 }))

/-- R229, R472: what is pushed is pulled again, whichever registers are named: a byte by any PHr and any PLr, a word by
PSH and PUL of general and float registers alike. -/
def Obligations.PushThenPull : Prop :=
  (∀ e ∈ phForms, ∀ g ∈ plForms, ∀ s : State, readable8 e.2.1 s → writable8 g.2.1 s →
    allows s.cfg (writeOf (s.sp - 1#16) .byte) = true → allows s.cfg (readOf (s.sp - 1#16) .byte) = true →
      ∃ t u, exec e.1 s = .next t ∧ exec g.1 t = .next u ∧ value8 g.2.1 u = value8 e.2.1 s ∧ u.sp = s.sp) ∧
  (∀ (r q : Reg16) (f g : FReg) (s : State), allows s.cfg (writeOf (s.sp - 2#16) .word) = true →
    allows s.cfg (readOf (s.sp - 2#16) .word) = true →
      (∃ t u, exec (.pshR r) s = .next t ∧ exec (.pulR q) t = .next u ∧ u.x.get q = s.x.get r ∧ u.sp = s.sp) ∧
      (∃ t u, exec (.pshR r) s = .next t ∧ exec (.pulF g) t = .next u ∧ u.f.get g = s.x.get r ∧ u.sp = s.sp) ∧
      (∃ t u, exec (.pshF f) s = .next t ∧ exec (.pulR q) t = .next u ∧ u.x.get q = s.f.get f ∧ u.sp = s.sp) ∧
      (∃ t u, exec (.pshF f) s = .next t ∧ exec (.pulF g) t = .next u ∧ u.f.get g = s.f.get f ∧ u.sp = s.sp))

/-- R310 to R313: a call followed at its target by RET comes back to the instruction after the call, with nothing
changed but the two bytes below SP. -/
def Obligations.CallThenReturn : Prop :=
  ∀ s : State, allows s.cfg (writeOf (s.sp - 2#16) .word) = true → allows s.cfg (readOf (s.sp - 2#16) .word) = true →
    (∀ k : Word, ∃ t u, exec (.jsr k) s = .next t ∧ t.pc = k ∧ exec .ret t = .next u ∧
      u = { s with pc := s.pc + 3#16, mem := u.mem } ∧ ∀ a, a ≠ s.sp - 2#16 → a ≠ s.sp - 1#16 → u.mem.read a = s.mem.read a) ∧
    (s.cfg.jmmIndirect = false → ∃ t u, exec .jsm s = .next t ∧ t.pc = s.x.r0 ∧ exec .ret t = .next u ∧
      u = { s with pc := s.pc + 1#16, mem := u.mem } ∧ ∀ a, a ≠ s.sp - 2#16 → a ≠ s.sp - 1#16 → u.mem.read a = s.mem.read a)

/-! ## Traps -/

/-- R500, R492: the entry sequence of all five kinds. -/
def Obligations.TrapEntry : Prop :=
  ∀ s : State,
    (∀ c ∈ [(TrapKind.irq, s.cfg.vecIrq, s.pc + 1#16), (.extIrq, s.cfg.vecIrq, s.pc), (.nmi, s.cfg.vecNmi, s.pc + 1#16),
        (.extNmi, s.cfg.vecNmi, s.pc), (.trp, s.cfg.vecTrp, s.pc + 1#16)],
      (c.2.1 = none → trap c.1 s = .fault (.vectorUnset c.1)) ∧
      (∀ v, c.2.1 = some v →
        (allows s.cfg (writeOf (s.sp - 2#16) .word) = true → ∃ t, trap c.1 s = .next t ∧ Entered v c.2.2 s t) ∧
        (Denied s.cfg (writeOf (s.sp - 2#16) .word) → trap c.1 s = .fault (.accessFault (writeOf (s.sp - 2#16) .word)))))

/-- R502: RFI after a trap entry comes back to the return address with SP as it was and I set, whatever I was. -/
def Obligations.TrapThenReturn : Prop :=
  ∀ (kind : TrapKind) (s t : State), trap kind s = .next t → allows s.cfg (readOf (s.sp - 2#16) .word) = true →
    ∃ u, exec .rfi t = .next u ∧
      u = { s with pc := (if kind = .extIrq ∨ kind = .extNmi then s.pc else s.pc + 1#16),
                   flag := { s.flag with i := true }, mem := u.mem, status := .running } ∧
      ∀ a, a ≠ s.sp - 2#16 → a ≠ s.sp - 1#16 → u.mem.read a = s.mem.read a

/-- R318, R319, R321: IRQ is taken only with I = 1 and otherwise discarded; NMI and TRP are taken always. -/
def Obligations.TrapInstructions : Prop :=
  Encodes .irq [0x7D#8] ∧ Encodes .nmi [0x7E#8] ∧ Encodes .trp [0xFF#8] ∧
  ∀ s : State,
    (s.flag.i = false → exec .irq s = .next { s with pc := s.pc + 1#16 }) ∧
    (s.flag.i = true → s.cfg.vecIrq = none → exec .irq s = .fault (.vectorUnset .irq)) ∧
    (s.cfg.vecNmi = none → exec .nmi s = .fault (.vectorUnset .nmi)) ∧
    (s.cfg.vecTrp = none → exec .trp s = .fault (.vectorUnset .trp)) ∧
    (allows s.cfg (writeOf (s.sp - 2#16) .word) = true →
      (∀ v, s.flag.i = true → s.cfg.vecIrq = some v → ∃ t, exec .irq s = .next t ∧ Entered v (s.pc + 1#16) s t) ∧
      (∀ v, s.cfg.vecNmi = some v → ∃ t, exec .nmi s = .next t ∧ Entered v (s.pc + 1#16) s t) ∧
      (∀ v, s.cfg.vecTrp = some v → ∃ t, exec .trp s = .next t ∧ Entered v (s.pc + 1#16) s t)) ∧
    (Denied s.cfg (writeOf (s.sp - 2#16) .word) →
      (∀ v, s.flag.i = true → s.cfg.vecIrq = some v →
        exec .irq s = .fault (.accessFault (writeOf (s.sp - 2#16) .word))) ∧
      (∀ v, s.cfg.vecNmi = some v → exec .nmi s = .fault (.accessFault (writeOf (s.sp - 2#16) .word))) ∧
      (∀ v, s.cfg.vecTrp = some v → exec .trp s = .fault (.accessFault (writeOf (s.sp - 2#16) .word))))

/-! ## 8-bit arithmetic -/

/-- R160 to R163: ADI, ADr, ACI, ACr. -/
def Obligations.AddToAccumulator : Prop :=
  ConstantForm .adi 0x80#8 (fun a b f => add a b false f) ∧
  RegisterForms adForms 0x80#8 (fun a b f => add a b false f) ∧
  ConstantForm .aci 0x88#8 (fun a b f => add a b f.c f) ∧
  RegisterForms acForms 0x88#8 (fun a b f => add a b f.c f)

/-- R164 to R167: SUI, SUr, SCI, SCr. -/
def Obligations.SubtractFromAccumulator : Prop :=
  ConstantForm .sui 0x90#8 (fun a b f => sub a b false f) ∧
  RegisterForms suForms 0x90#8 (fun a b f => sub a b false f) ∧
  ConstantForm .sci 0x98#8 (fun a b f => sub a b f.c f) ∧
  RegisterForms scForms 0x98#8 (fun a b f => sub a b f.c f)

/-- R169, R170: a compare is a subtraction whose result is thrown away. -/
def Obligations.CompareAccumulator : Prop :=
  ConstantForm .cpi 0xA0#8 (fun a b f => (a, (sub a b false f).2)) ∧
  RegisterForms cpForms 0xA0#8 (fun a b f => (a, (sub a b false f).2))

/-- R171 to R176: ANI, ANr, ORI, ORr, XRI, XRr. -/
def Obligations.LogicOnAccumulator : Prop :=
  ConstantForm .ani 0xA8#8 (fun a b f => logic (a &&& b) f) ∧
  RegisterForms anForms 0xA8#8 (fun a b f => logic (a &&& b) f) ∧
  ConstantForm .ori 0xB0#8 (fun a b f => logic (a ||| b) f) ∧
  RegisterForms orForms 0xB0#8 (fun a b f => logic (a ||| b) f) ∧
  ConstantForm .xri 0xB8#8 (fun a b f => logic (a ^^^ b) f) ∧
  RegisterForms xrForms 0xB8#8 (fun a b f => logic (a ^^^ b) f)

/-- R180 to R185: ASL, ASR (a logical shift), ROL, ROR, COM, NEG on A. -/
def Obligations.AccumulatorOperations : Prop :=
  Encodes .asl [0xC0#8] ∧ Encodes .asr [0xC1#8] ∧ Encodes .rol [0xC2#8] ∧ Encodes .ror [0xC3#8] ∧
  Encodes .com [0xC4#8] ∧ Encodes .neg [0xC5#8] ∧
  ∀ s : State,
    let into (moved : Bool) := if s.cfg.rotateThroughCarry then s.flag.c else moved
    exec .asl s = .next (toA (shift (enterRight 7 s.a false) (s.a.getLsbD 7) s.flag) 1#16 s) ∧
    exec .asr s = .next (toA (shift (enterLeft 7 s.a false) (s.a.getLsbD 0) s.flag) 1#16 s) ∧
    exec .rol s = .next (toA (shift (enterRight 7 s.a (into (s.a.getLsbD 7))) (s.a.getLsbD 7) s.flag) 1#16 s) ∧
    exec .ror s = .next (toA (shift (enterLeft 7 s.a (into (s.a.getLsbD 0))) (s.a.getLsbD 0) s.flag) 1#16 s) ∧
    exec .com s = .next (toA (logic (~~~s.a) s.flag) 1#16 s) ∧
    exec .neg s = .next (toA (sub 0#8 s.a false s.flag) 1#16 s)

/-- R168, R397: an addition of n bytes is ADD on the low bytes and ADC on each higher byte, a subtraction SUB and then
SBC; the last C is the carry or the borrow of the whole. Two words chain in the same way, on two different registers,
low half first. -/
def Obligations.MultiByteArithmetic : Prop :=
  (∀ (l : List (Byte × Byte)) (s : State), l ≠ [] →
    (∃ r t, chained .adi .aci l s = .next (r, t) ∧ r.length = l.length ∧
      number r + 256 ^ l.length * t.flag.c.toNat = number (l.map (·.1)) + number (l.map (·.2))) ∧
    (∃ r t, chained .sui .sci l s = .next (r, t) ∧ r.length = l.length ∧
      number r + number (l.map (·.2)) = number (l.map (·.1)) + 256 ^ l.length * t.flag.c.toNat)) ∧
  (∀ (lo hi : Reg16) (kl kh : Word) (s : State), lo ≠ hi →
    let whole (u : State) := (u.x.get hi).toNat * 65536 + (u.x.get lo).toNat
    (∃ t u, exec (.addRk lo kl) s = .next t ∧ exec (.adcRk hi kh) t = .next u ∧
      whole u + 65536 ^ 2 * u.flag.c.toNat = whole s + (kh.toNat * 65536 + kl.toNat)) ∧
    (∃ t u, exec (.subRk lo kl) s = .next t ∧ exec (.sbcRk hi kh) t = .next u ∧
      whole u + (kh.toNat * 65536 + kl.toNat) = whole s + 65536 ^ 2 * u.flag.c.toNat))

/-- R187, R397: overflow is reported in V as signed and in C as unsigned, and does not trap: after every addition,
subtraction, negation and comparison both flags say whether the exact result fits, the carry or borrow that went in
counted. -/
def Obligations.OverflowIsReported : Prop :=
  (∀ (k : Byte) (s : State),
    ReportsSum s.a k false (exec (.adi k) s) ∧ ReportsSum s.a k s.flag.c (exec (.aci k) s) ∧
    ReportsDifference s.a k false (exec (.sui k) s) ∧ ReportsDifference s.a k s.flag.c (exec (.sci k) s) ∧
    ReportsDifference s.a k false (exec (.cpi k) s) ∧ ReportsDifference 0#8 s.a false (exec .neg s)) ∧
  (∀ s : State,
    (∀ e ∈ adForms, readable8 e.2.1 s → ReportsSum s.a (value8 e.2.1 s) false (exec e.1 s)) ∧
    (∀ e ∈ acForms, readable8 e.2.1 s → ReportsSum s.a (value8 e.2.1 s) s.flag.c (exec e.1 s)) ∧
    (∀ e ∈ suForms, readable8 e.2.1 s → ReportsDifference s.a (value8 e.2.1 s) false (exec e.1 s)) ∧
    (∀ e ∈ scForms, readable8 e.2.1 s → ReportsDifference s.a (value8 e.2.1 s) s.flag.c (exec e.1 s)) ∧
    (∀ e ∈ cpForms, readable8 e.2.1 s → ReportsDifference s.a (value8 e.2.1 s) false (exec e.1 s))) ∧
  (∀ (r q : Reg16) (k : Word) (s : State),
    ReportsSum (s.x.get r) (s.x.get q) false (exec (.addRr r q) s) ∧
    ReportsSum (s.x.get r) (s.x.get q) s.flag.c (exec (.adcRr r q) s) ∧
    ReportsDifference (s.x.get r) (s.x.get q) false (exec (.subRr r q) s) ∧
    ReportsDifference (s.x.get r) (s.x.get q) s.flag.c (exec (.sbcRr r q) s) ∧
    ReportsDifference (s.x.get r) (s.x.get q) false (exec (.cmpRr r q) s) ∧
    ReportsSum (s.x.get r) k false (exec (.addRk r k) s) ∧
    ReportsSum (s.x.get r) k s.flag.c (exec (.adcRk r k) s) ∧
    ReportsDifference (s.x.get r) k false (exec (.subRk r k) s) ∧
    ReportsDifference (s.x.get r) k s.flag.c (exec (.sbcRk r k) s) ∧
    ReportsDifference (s.x.get r) k false (exec (.cmpRk r k) s) ∧
    ReportsDifference 0#16 (s.x.get r) false (exec (.negR r) s))

/-! ## 8-bit transfers -/

/-- R220 to R223: SFI, CFI, SFT, CFT. -/
def Obligations.FlagInstructions : Prop :=
  Encodes .sfi [0x02#8] ∧ Encodes .cfi [0x03#8] ∧ Encodes .sft [0x04#8] ∧ Encodes .cft [0x05#8] ∧
  ∀ s : State,
    exec .sfi s = .next { s with flag := { s.flag with i := true }, pc := s.pc + 1#16 } ∧
    exec .cfi s = .next { s with flag := { s.flag with i := false }, pc := s.pc + 1#16 } ∧
    exec .sft s = .next { s with flag := { s.flag with t := true }, pc := s.pc + 1#16 } ∧
    exec .cft s = .next { s with flag := { s.flag with t := false }, pc := s.pc + 1#16 }

/-- R224: A and the operand exchanged; SWM reads the byte at HL before it writes it (R94). -/
def Obligations.SwapWithAccumulator : Prop :=
  ∀ e ∈ swForms,
    e.2.2 = 0x08#8 + e.2.1.code ∧ Encodes e.1 [e.2.2] ∧
      FaultsInOrder e.1 (fun s => readsM e.2.1 s ++ writesM e.2.1 s) ∧
      ∀ s : State, readable8 e.2.1 s → writable8 e.2.1 s →
        ∃ t, exec e.1 s = .next t ∧ Writes8 e.2.1 s.a { s with a := value8 e.2.1 s, pc := s.pc + 1#16 } t

/-- R225 to R227: TRI, TrA, TAr. -/
def Obligations.AccumulatorTransfers : Prop :=
  (∀ (k : Byte) (s : State), Encodes (.tri k) [0x20#8, k] ∧ exec (.tri k) s = .next { s with a := k, pc := s.pc + 2#16 }) ∧
  (∀ e ∈ trAForms, e.2.2 = 0x20#8 + e.2.1.code ∧ Encodes e.1 [e.2.2] ∧ FaultsInOrder e.1 (readsM e.2.1) ∧
    ∀ s : State, readable8 e.2.1 s → exec e.1 s = .next { s with a := value8 e.2.1 s, pc := s.pc + 1#16 }) ∧
  (∀ e ∈ tArForms, e.2.2 = 0x28#8 + e.2.1.code ∧ Encodes e.1 [e.2.2] ∧ FaultsInOrder e.1 (writesM e.2.1) ∧
    ∀ s : State, writable8 e.2.1 s → ∃ t, exec e.1 s = .next t ∧ Writes8 e.2.1 s.a { s with pc := s.pc + 1#16 } t)

/-- R228, R229: PLr and PHr. PLM moves SP before it writes the byte at HL; PHM reads the byte at HL before SP moves. -/
def Obligations.BytePullAndPush : Prop :=
  (∀ e ∈ plForms, e.2.2 = 0x30#8 + e.2.1.code ∧ Encodes e.1 [e.2.2] ∧
    FaultsInOrder e.1 (fun s => readOf s.sp .byte :: writesM e.2.1 s) ∧
    ∀ s : State, allows s.cfg (readOf s.sp .byte) = true → writable8 e.2.1 s →
      ∃ t, exec e.1 s = .next t ∧
        Writes8 e.2.1 (s.mem.read s.sp) { s with sp := s.sp + 1#16, pc := s.pc + 1#16 } t) ∧
  (∀ e ∈ phForms, e.2.2 = 0x38#8 + e.2.1.code ∧ Encodes e.1 [e.2.2] ∧
    FaultsInOrder e.1 (fun s => readsM e.2.1 s ++ [writeOf (s.sp - 1#16) .byte]) ∧
    ∀ s : State, readable8 e.2.1 s → allows s.cfg (writeOf (s.sp - 1#16) .byte) = true →
      ∃ t, exec e.1 s = .next t ∧ t = { s with sp := s.sp - 1#16, pc := s.pc + 1#16, mem := t.mem } ∧
        Stores8 s.mem t.mem (s.sp - 1#16) (value8 e.2.1 s))

/-- R230, R231: LDA and STA. -/
def Obligations.LoadAndStoreAccumulator : Prop :=
  ∀ k : Word, EncodesK (.lda k) 0x10#8 k ∧ EncodesK (.sta k) 0x18#8 k ∧
    FaultsInOrder (.lda k) (fun _ => [readOf k .byte]) ∧ FaultsInOrder (.sta k) (fun _ => [writeOf k .byte]) ∧
    ∀ s : State,
      (allows s.cfg (readOf k .byte) = true → exec (.lda k) s = .next { s with a := s.mem.read k, pc := s.pc + 3#16 }) ∧
      (allows s.cfg (writeOf k .byte) = true →
        ∃ t, exec (.sta k) s = .next t ∧ t = { s with pc := s.pc + 3#16, mem := t.mem } ∧ Stores8 s.mem t.mem k s.a)

/-! ## Jumps and control -/

/-- R282, R283, R281: the sixteen jumps on a flag. -/
def Obligations.FlagJumps : Prop :=
  (∀ e ∈ jfcForms, e.2.2 = 0x60#8 + flagCode e.2.1 ∧ ∀ (k : Word) (s : State), EncodesK (e.1 k) e.2.2 k ∧
    exec (e.1 k) s = .next (jump (decide (flagOf e.2.1 s.flag = false)) k s)) ∧
  (∀ e ∈ jfsForms, e.2.2 = 0x68#8 + flagCode e.2.1 ∧ ∀ (k : Word) (s : State), EncodesK (e.1 k) e.2.2 k ∧
    exec (e.1 k) s = .next (jump (decide (flagOf e.2.1 s.flag = true)) k s))

/-- R286 to R291: the six jumps on the result of a compare, by their flags. -/
def Obligations.RelationalJumps : Prop :=
  ∀ e ∈ relationForms, ∀ (k : Word) (s : State), EncodesK (e.1 k) e.2.1 k ∧
    exec (e.1 k) s = .next (jump (e.2.2.1 s.flag) k s)

/-- R292: after a compare of a with b each relational jump is taken exactly when its relation holds of a and b as signed
numbers, and JCS exactly when a is below b unsigned, JCC when it is not; at both widths. -/
def Obligations.CompareThenJump : Prop :=
  (∀ (b : Byte) (k : Word) (s : State), ∃ t, exec (.cpi b) s = .next t ∧
    (∀ e ∈ relationForms, exec (e.1 k) t = .next (jump (e.2.2.2 s.a.toInt b.toInt) k t)) ∧
    exec (.jcs k) t = .next (jump (decide (s.a.toNat < b.toNat)) k t) ∧
    exec (.jcc k) t = .next (jump (decide (b.toNat ≤ s.a.toNat)) k t)) ∧
  (∀ c ∈ cpForms, ∀ (k : Word) (s : State), readable8 c.2.1 s → ∃ t, exec c.1 s = .next t ∧
    (∀ e ∈ relationForms, exec (e.1 k) t = .next (jump (e.2.2.2 s.a.toInt (value8 c.2.1 s).toInt) k t)) ∧
    exec (.jcs k) t = .next (jump (decide (s.a.toNat < (value8 c.2.1 s).toNat)) k t) ∧
    exec (.jcc k) t = .next (jump (decide ((value8 c.2.1 s).toNat ≤ s.a.toNat)) k t)) ∧
  (∀ (ra rb : Reg16) (k : Word) (s : State), ∃ t, exec (.cmpRr ra rb) s = .next t ∧
    (∀ e ∈ relationForms, exec (e.1 k) t = .next (jump (e.2.2.2 (s.x.get ra).toInt (s.x.get rb).toInt) k t)) ∧
    exec (.jcs k) t = .next (jump (decide ((s.x.get ra).toNat < (s.x.get rb).toNat)) k t) ∧
    exec (.jcc k) t = .next (jump (decide ((s.x.get rb).toNat ≤ (s.x.get ra).toNat)) k t)) ∧
  (∀ (ra : Reg16) (b k : Word) (s : State), ∃ t, exec (.cmpRk ra b) s = .next t ∧
    (∀ e ∈ relationForms, exec (e.1 k) t = .next (jump (e.2.2.2 (s.x.get ra).toInt b.toInt) k t)) ∧
    exec (.jcs k) t = .next (jump (decide ((s.x.get ra).toNat < b.toNat)) k t) ∧
    exec (.jcc k) t = .next (jump (decide (b.toNat ≤ (s.x.get ra).toNat)) k t))

/-- R284, R285, R310 to R312, R314: JMP, JMM, JSR, JSM, RET, RFI. JSM reads its target before it pushes. -/
def Obligations.JumpsCallsReturns : Prop :=
  (∀ k, EncodesK (.jmp k) 0x70#8 k ∧ EncodesK (.jsr k) 0x78#8 k ∧
    FaultsInOrder (.jsr k) (fun s => [writeOf (s.sp - 2#16) .word])) ∧
  Encodes .jmm [0x71#8] ∧ Encodes .jsm [0x79#8] ∧ Encodes .ret [0x7B#8] ∧ Encodes .rfi [0x7C#8] ∧
  FaultsInOrder .jmm throughHl ∧ FaultsInOrder .jsm (fun s => throughHl s ++ [writeOf (s.sp - 2#16) .word]) ∧
  FaultsInOrder .ret (fun s => [readOf s.sp .word]) ∧ FaultsInOrder .rfi (fun s => [readOf s.sp .word]) ∧
  ∀ s : State,
    let through := if s.cfg.jmmIndirect then word s.cfg.byteOrder s.mem s.x.r0 else s.x.r0
    (∀ k, exec (.jmp k) s = .next { s with pc := k }) ∧
    ((s.cfg.jmmIndirect = true → allows s.cfg (readOf s.x.r0 .word) = true) →
      exec .jmm s = .next { s with pc := through }) ∧
    (allows s.cfg (writeOf (s.sp - 2#16) .word) = true →
      (∀ k, ∃ t, exec (.jsr k) s = .next t ∧ t = { s with sp := s.sp - 2#16, mem := t.mem, pc := k } ∧
        Stores16 s.cfg.byteOrder s.mem t.mem (s.sp - 2#16) (s.pc + 3#16)) ∧
      ((s.cfg.jmmIndirect = true → allows s.cfg (readOf s.x.r0 .word) = true) →
        ∃ t, exec .jsm s = .next t ∧ t = { s with sp := s.sp - 2#16, mem := t.mem, pc := through } ∧
          Stores16 s.cfg.byteOrder s.mem t.mem (s.sp - 2#16) (s.pc + 1#16))) ∧
    (allows s.cfg (readOf s.sp .word) = true →
      exec .ret s = .next { s with sp := s.sp + 2#16, pc := word s.cfg.byteOrder s.mem s.sp } ∧
      exec .rfi s = .next { s with sp := s.sp + 2#16, pc := word s.cfg.byteOrder s.mem s.sp,
                                   flag := { s.flag with i := true } })

/-- R316, R317: NOP, and HLT, after which no step leads anywhere, whatever is offered. -/
def Obligations.NopAndHalt : Prop :=
  Encodes .nop [0x00#8] ∧ Encodes .hlt [0x01#8] ∧
  ∀ s : State,
    exec .nop s = .next { s with pc := s.pc + 1#16 } ∧
    exec .hlt s = .next { s with pc := s.pc + 1#16, status := .halted } ∧
    (s.status = .halted → ∀ t, step s ≠ .next t)

/-- R320: WFI waits, and a waiting machine changes nothing until a request is taken. R543: it waits for ever exactly
when nothing that is offered from then on is taken, and then the state no longer changes. That a waiting step with
nothing taken answers a next state, and passes one boundary of the stream held in the state, is the model's choice
(notes/assumptions/7.md, DEDUCED; notes/assumptions/9.md, DESIGN CHOICE). -/
def Obligations.WaitForInterrupt : Prop :=
  Encodes .wfi [0x7F#8] ∧
  ∀ s : State,
    exec .wfi s = .next { s with pc := s.pc + 1#16, status := .waiting } ∧
    (s.status = .waiting →
      let o := s.events.head
      let passed := { s with events := s.events.tail }
      (s.events = .cycle [] → step s = .next s) ∧
      (o.nmi = false → (o.irq = true → s.flag.i = false) → step s = .next passed) ∧
      (∀ v, o.nmi = true → s.cfg.vecNmi = some v → allows s.cfg (writeOf (s.sp - 2#16) .word) = true →
        ∃ t, step s = .next t ∧ Entered v s.pc passed t) ∧
      (∀ v, o.nmi = false → o.irq = true → s.flag.i = true → s.cfg.vecIrq = some v →
        allows s.cfg (writeOf (s.sp - 2#16) .word) = true → ∃ t, step s = .next t ∧ Entered v s.pc passed t)) ∧
    (WaitsForEver s ↔
      s.status = .waiting ∧ ∀ t, Reaches s t → Completes t ∧ t = { s with events := t.events })

/-- R322: BDS has no encoding, no bytes decode to it, no configured machine has it as an instruction, no fetch answers
it, and its arm stops by name, with no effect. It is the one constructor of which this is so: the instructions some
configured machine has are exactly the others. That there is an arm is the model's departure from R322's words, which
the table's row for BDS forces (notes/assumptions/14.md, DESIGN CHOICE). -/
def Obligations.BdsStops : Prop :=
  (∀ i : Instr, (∃ cfg : Config, i.wellFormed cfg = true) ↔ i ≠ .bds) ∧
  (∀ cfg : Config, Instr.bds.wellFormed cfg = false ∧ encode cfg .bds = none ∧
    ∀ bytes rest, decode cfg bytes ≠ .ok (.bds, rest)) ∧
  ∀ s : State, fetchInstr s ≠ .next .bds ∧ exec .bds s = .refused .bdsHasNoSemantics

/-! ## 16-bit instructions -/

/-- R345 to R349, R380 to R384: ADD, ADC, SUB, SBC and CMP on two registers and on a register and a constant. -/
def Obligations.WordSumsAndCompare : Prop :=
  (∀ e ∈ sumForms, ∀ (rd rs : Reg16) (k : Word) (s : State),
    Encodes (e.1 rd rs) [e.2.1, regPair rd.code rs.code] ∧ EncodesRK (e.2.2.1 rd k) e.2.2.2.1 rd.code k ∧
    exec (e.1 rd rs) s = .next (toReg rd (e.2.2.2.2 (s.x.get rd) (s.x.get rs) s.flag) 2#16 s) ∧
    exec (e.2.2.1 rd k) s = .next (toReg rd (e.2.2.2.2 (s.x.get rd) k s.flag) 4#16 s)) ∧
  (∀ (ra rb : Reg16) (k : Word) (s : State),
    Encodes (.cmpRr ra rb) [0xCC#8, regPair ra.code rb.code] ∧ EncodesRK (.cmpRk ra k) 0xDC#8 ra.code k ∧
    exec (.cmpRr ra rb) s = .next { s with flag := (sub (s.x.get ra) (s.x.get rb) false s.flag).2, pc := s.pc + 2#16 } ∧
    exec (.cmpRk ra k) s = .next { s with flag := (sub (s.x.get ra) k false s.flag).2, pc := s.pc + 4#16 })

/-- R350 to R352, R385 to R387, R390, R391: AND, ORR, XOR and MUL on two registers and on a register and a constant. -/
def Obligations.WordLogicAndProduct : Prop :=
  ∀ e ∈ logicForms, ∀ (rd rs : Reg16) (k : Word) (s : State),
    Encodes (e.1 rd rs) [e.2.1, regPair rd.code rs.code] ∧ EncodesRK (e.2.2.1 rd k) e.2.2.2.1 rd.code k ∧
    exec (e.1 rd rs) s = .next (toReg rd (logic (e.2.2.2.2 (s.x.get rd) (s.x.get rs)) s.flag) 2#16 s) ∧
    exec (e.2.2.1 rd k) s = .next (toReg rd (logic (e.2.2.2.2 (s.x.get rd) k) s.flag) 4#16 s)

/-- R360 to R365: ASL, ASR (arithmetic), ROL, ROR, COM, NEG on one register. -/
def Obligations.WordUnaryOperations : Prop :=
  ∀ (r : Reg16) (s : State),
    let v := s.x.get r
    let into (moved : Bool) := if s.cfg.rotateThroughCarry then s.flag.c else moved
    Encodes (.aslR r) [0xD0#8, r.code] ∧ Encodes (.asrR r) [0xD1#8, r.code] ∧ Encodes (.rolR r) [0xD2#8, r.code] ∧
    Encodes (.rorR r) [0xD3#8, r.code] ∧ Encodes (.comR r) [0xD4#8, r.code] ∧ Encodes (.negR r) [0xD5#8, r.code] ∧
    exec (.aslR r) s = .next (toReg r (shift (enterRight 15 v false) (v.getLsbD 15) s.flag) 2#16 s) ∧
    exec (.asrR r) s = .next (toReg r (shift (enterLeft 15 v (v.getLsbD 15)) (v.getLsbD 0) s.flag) 2#16 s) ∧
    exec (.rolR r) s = .next (toReg r (shift (enterRight 15 v (into (v.getLsbD 15))) (v.getLsbD 15) s.flag) 2#16 s) ∧
    exec (.rorR r) s = .next (toReg r (shift (enterLeft 15 v (into (v.getLsbD 0))) (v.getLsbD 0) s.flag) 2#16 s) ∧
    exec (.comR r) s = .next (toReg r (logic (~~~v) s.flag) 2#16 s) ∧
    exec (.negR r) s = .next (toReg r (sub 0#16 v false s.flag) 2#16 s)

/-- R392 to R396: DIV, DIK, MOD, MOK, unsigned and with `DIV_SIGNED`; a zero divisor faults in either setting. -/
def Obligations.DivideAndRemainder : Prop :=
  ∀ (rd rs : Reg16) (k : Word),
    Encodes (.divRr rd rs) [0xE2#8, regPair rd.code rs.code] ∧ EncodesRK (.dik rd k) 0xE3#8 rd.code k ∧
    Encodes (.modRr rd rs) [0xE4#8, regPair rd.code rs.code] ∧ EncodesRK (.mok rd k) 0xE5#8 rd.code k ∧
    ∀ s : State,
      let a := s.x.get rd
      let b := s.x.get rs
      let quo (d : Word) := if s.cfg.divSigned then signedQuotient a d else BitVec.ofNat 16 (a.toNat / d.toNat)
      let rem (d : Word) := if s.cfg.divSigned then signedRemainder a d else BitVec.ofNat 16 (a.toNat % d.toNat)
      (b = 0#16 → exec (.divRr rd rs) s = .fault (.divideByZero s.pc) ∧
        exec (.modRr rd rs) s = .fault (.divideByZero s.pc)) ∧
      (k = 0#16 → exec (.dik rd k) s = .fault (.divideByZero s.pc) ∧
        exec (.mok rd k) s = .fault (.divideByZero s.pc)) ∧
      (b ≠ 0#16 → exec (.divRr rd rs) s = .next (toReg rd (logic (quo b) s.flag) 2#16 s) ∧
        exec (.modRr rd rs) s = .next (toReg rd (logic (rem b) s.flag) 2#16 s)) ∧
      (k ≠ 0#16 → exec (.dik rd k) s = .next (toReg rd (logic (quo k) s.flag) 4#16 s) ∧
        exec (.mok rd k) s = .next (toReg rd (logic (rem k) s.flag) 4#16 s))

/-- R340 to R343, R368, R374: TPC, TRR, TrR, TRr, SWP.rr, TRA.rK. -/
def Obligations.WordTransfers : Prop :=
  (∀ cfg, encode cfg .tpc = cfg.encTpc.map (fun op => [op])) ∧
  (∀ (r : Reg16) (k : Word) (cfg : Config),
    encode cfg (.traRk r k) = cfg.encTrk.map (fun op => op :: r.code :: constant cfg k)) ∧
  (∀ (rd rs : Reg16) (o : Reg8),
    Encodes (.tRR rd rs) [0x48#8, regPair rd.code rs.code] ∧ Encodes (.trR rd o) [0x49#8, regPair rd.code o.code] ∧
    Encodes (.tRr o rs) [0x4A#8, regPair o.code rs.code] ∧ Encodes (.swpRr rd rs) [0x50#8, regPair rd.code rs.code] ∧
    FaultsInOrder (.trR rd o) (readsM o) ∧ FaultsInOrder (.tRr o rs) (writesM o)) ∧
  ∀ s : State,
    exec .tpc s = .next { s with x := { s.x with r0 := s.pc }, pc := s.pc + 1#16 } ∧
    (∀ (rd rs : Reg16) (o : Reg8) (k : Word),
      exec (.tRR rd rs) s = .next { s with x := s.x.set rd (s.x.get rs), pc := s.pc + 2#16 } ∧
      (readable8 o s → exec (.trR rd o) s =
        .next { s with x := s.x.set rd (wide s (s.x.get rd) (value8 o s)), pc := s.pc + 2#16 }) ∧
      (writable8 o s → ∃ t, exec (.tRr o rs) s = .next t ∧ Writes8 o (low (s.x.get rs)) { s with pc := s.pc + 2#16 } t) ∧
      (∃ t, exec (.swpRr rd rs) s = .next t ∧ t = { s with x := t.x, pc := s.pc + 2#16 } ∧
        t.x.get rd = s.x.get rs ∧ t.x.get rs = s.x.get rd ∧
        ∀ q, q ≠ rd → q ≠ rs → t.x.get q = s.x.get q) ∧
      exec (.traRk rd k) s = .next { s with x := s.x.set rd k, pc := s.pc + 4#16 })

/-- R366, R367, R370 to R373: PSH.r, PUL.r, LrK, SrK, STM.Mr, LDM.rM. -/
def Obligations.WordLoadStorePushPull : Prop :=
  ∀ (r : Reg16) (k : Word),
    Encodes (.pshR r) [0x42#8, r.code] ∧ Encodes (.pulR r) [0x43#8, r.code] ∧
    EncodesRK (.lrK r k) 0x40#8 r.code k ∧ EncodesRK (.srK r k) 0x41#8 r.code k ∧
    (∀ cfg, encode cfg (.stmMr r) = cfg.encStmm.map (fun op => [op, r.code]) ∧
      encode cfg (.ldmRm r) = cfg.encLdmm.map (fun op => [op, r.code])) ∧
    FaultsInOrder (.pshR r) (fun s => [writeOf (s.sp - 2#16) .word]) ∧
    FaultsInOrder (.pulR r) (fun s => [readOf s.sp .word]) ∧
    FaultsInOrder (.lrK r k) (fun _ => [readOf k .word]) ∧ FaultsInOrder (.srK r k) (fun _ => [writeOf k .word]) ∧
    FaultsInOrder (.stmMr r) (fun s => [writeOf s.x.r0 .word]) ∧
    FaultsInOrder (.ldmRm r) (fun s => [readOf s.x.r0 .word]) ∧
    ∀ s : State,
      (allows s.cfg (writeOf (s.sp - 2#16) .word) = true →
        ∃ t, exec (.pshR r) s = .next t ∧ Pushed (s.x.get r) 2#16 s t) ∧
      (allows s.cfg (readOf s.sp .word) = true →
        exec (.pulR r) s = .next { s with x := s.x.set r (word s.cfg.byteOrder s.mem s.sp), sp := s.sp + 2#16,
                                          pc := s.pc + 2#16 }) ∧
      (allows s.cfg (readOf k .word) = true →
        exec (.lrK r k) s = .next { s with x := s.x.set r (word s.cfg.byteOrder s.mem k), pc := s.pc + 4#16 }) ∧
      (allows s.cfg (writeOf k .word) = true →
        ∃ t, exec (.srK r k) s = .next t ∧ t = { s with mem := t.mem, pc := s.pc + 4#16 } ∧
          Stores16 s.cfg.byteOrder s.mem t.mem k (s.x.get r)) ∧
      (allows s.cfg (writeOf s.x.r0 .word) = true →
        ∃ t, exec (.stmMr r) s = .next t ∧ t = { s with mem := t.mem, pc := s.pc + 2#16 } ∧
          Stores16 s.cfg.byteOrder s.mem t.mem s.x.r0 (s.x.get r)) ∧
      (allows s.cfg (readOf s.x.r0 .word) = true →
        exec (.ldmRm r) s = .next { s with x := s.x.set r (word s.cfg.byteOrder s.mem s.x.r0), pc := s.pc + 2#16 })

/-! ## The shadow exchange -/

/-- R420, R421: EXR exchanges FA and the variant's general registers, EXF the float registers, and nothing else; two in
a row restore everything. -/
def Obligations.ShadowExchange : Prop :=
  Encodes .exr [0x08#8] ∧ (∀ cfg, encode cfg .exf = cfg.encExf.map (fun op => [op])) ∧
  ∀ s : State,
    (∃ t, exec .exr s = .next t ∧
      t = { s with a := s.shadowA, flag := s.shadowFlag, x := t.x,
                   shadowA := s.a, shadowFlag := s.flag, shadowX := t.shadowX, pc := s.pc + 1#16 } ∧
      (∀ r, hasReg s.cfg.variant r = true → t.x.get r = s.shadowX.get r ∧ t.shadowX.get r = s.x.get r) ∧
      (∀ r, hasReg s.cfg.variant r = false → t.x.get r = s.x.get r ∧ t.shadowX.get r = s.shadowX.get r) ∧
      exec .exr t = .next { s with pc := s.pc + 2#16 }) ∧
    exec .exf s = .next { s with f := s.shadowF, shadowF := s.f, pc := s.pc + 1#16 }

/-! ## Float instructions -/

/-- R440 to R444, R452, R462: TFF, TRF, TFR, TrF, TFr, SWP.ff, TRA.fK. -/
def Obligations.FloatTransfers : Prop :=
  (∀ (f g : FReg) (r : Reg16) (o : Reg8) (k : Word) (cfg : Config),
    Encodes (.tFF f g) [0x4B#8, regPair f.code g.code] ∧ Encodes (.tRF f r) [0x4C#8, regPair f.code r.code] ∧
    Encodes (.tFR r f) [0x4D#8, regPair r.code f.code] ∧ Encodes (.trF f o) [0x4E#8, regPair f.code o.code] ∧
    Encodes (.tFr o f) [0x4F#8, regPair o.code f.code] ∧ Encodes (.swpFf f g) [0x51#8, regPair f.code g.code] ∧
    encode cfg (.traFk f k) = cfg.encTfk.map (fun op => op :: f.code :: constant cfg k) ∧
    FaultsInOrder (.trF f o) (readsM o) ∧ FaultsInOrder (.tFr o f) (writesM o)) ∧
  ∀ (s : State) (f g : FReg) (r : Reg16) (o : Reg8) (k : Word),
    exec (.tFF f g) s = .next (toFloat f (s.f.get g) 2#16 s) ∧
    exec (.tRF f r) s = .next (toFloat f (intoFloat s.cfg (s.x.get r)) 2#16 s) ∧
    exec (.tFR r f) s = .next { s with x := s.x.set r (outOfFloat s.cfg (s.f.get f)), pc := s.pc + 2#16 } ∧
    (readable8 o s →
      exec (.trF f o) s = .next (toFloat f (intoFloat s.cfg (wide s (s.f.get f) (value8 o s))) 2#16 s)) ∧
    (writable8 o s →
      ∃ t, exec (.tFr o f) s = .next t ∧ Writes8 o (low (outOfFloat s.cfg (s.f.get f))) { s with pc := s.pc + 2#16 } t) ∧
    (∃ t, exec (.swpFf f g) s = .next t ∧ t = { s with f := t.f, pc := s.pc + 2#16 } ∧
      t.f.get f = s.f.get g ∧ t.f.get g = s.f.get f ∧ ∀ q, q ≠ f → q ≠ g → t.f.get q = s.f.get q) ∧
    exec (.traFk f k) s = .next (toFloat f k 4#16 s)

/-- R460, R461, R469, R471, R472: LFK, SFK, SWP.fK, PSH.f, PUL.f move raw words. -/
def Obligations.FloatLoadStorePushPull : Prop :=
  ∀ (f : FReg) (k : Word),
    EncodesRK (.lfk f k) 0x44#8 f.code k ∧ EncodesRK (.sfk f k) 0x45#8 f.code k ∧
    Encodes (.pshF f) [0x46#8, f.code] ∧ Encodes (.pulF f) [0x47#8, f.code] ∧
    (∀ cfg, encode cfg (.swpFk f k) = cfg.encSwfk.map (fun op => op :: f.code :: constant cfg k)) ∧
    FaultsInOrder (.lfk f k) (fun _ => [readOf k .word]) ∧ FaultsInOrder (.sfk f k) (fun _ => [writeOf k .word]) ∧
    FaultsInOrder (.pshF f) (fun s => [writeOf (s.sp - 2#16) .word]) ∧
    FaultsInOrder (.pulF f) (fun s => [readOf s.sp .word]) ∧
    FaultsInOrder (.swpFk f k) (fun _ => [readOf k .word, writeOf k .word]) ∧
    ∀ s : State,
      (allows s.cfg (readOf k .word) = true →
        exec (.lfk f k) s = .next (toFloat f (word s.cfg.byteOrder s.mem k) 4#16 s)) ∧
      (allows s.cfg (writeOf k .word) = true →
        ∃ t, exec (.sfk f k) s = .next t ∧ t = { s with mem := t.mem, pc := s.pc + 4#16 } ∧
          Stores16 s.cfg.byteOrder s.mem t.mem k (s.f.get f)) ∧
      (allows s.cfg (writeOf (s.sp - 2#16) .word) = true →
        ∃ t, exec (.pshF f) s = .next t ∧ Pushed (s.f.get f) 2#16 s t) ∧
      (allows s.cfg (readOf s.sp .word) = true →
        exec (.pulF f) s = .next { s with f := s.f.set f (word s.cfg.byteOrder s.mem s.sp), sp := s.sp + 2#16,
                                          pc := s.pc + 2#16 }) ∧
      (allows s.cfg (readOf k .word) = true → allows s.cfg (writeOf k .word) = true →
        ∃ t, exec (.swpFk f k) s = .next t ∧
          t = { s with f := s.f.set f (word s.cfg.byteOrder s.mem k), mem := t.mem, pc := s.pc + 4#16 } ∧
          Stores16 s.cfg.byteOrder s.mem t.mem k (s.f.get f))

/-- R445, R447 to R451, R463 to R466, R468: the float operations on two registers and on a register and a constant,
each its own function of the FLOAT record, whatever that function is; no flag is written. -/
def Obligations.FloatArithmetic : Prop :=
  (∀ e ∈ floatPairForms, ∀ (f g : FReg) (s : State), Encodes (e.1 f g) [e.2.1, regPair f.code g.code] ∧
    exec (e.1 f g) s = .next (toFloat f (e.2.2 (s.f.get f) (s.f.get g)) 2#16 s)) ∧
  (∀ e ∈ floatConstForms, ∀ (f : FReg) (k : Word) (s : State), EncodesRK (e.1 f k) e.2.1 f.code k ∧
    exec (e.1 f k) s = .next (toFloat f (e.2.2 (s.f.get f) k) 4#16 s))

/-- R473 to R480: the float operations on one register. -/
def Obligations.FloatUnaryOperations : Prop :=
  ∀ e ∈ floatUnaryForms, ∀ (f : FReg) (s : State), Encodes (e.1 f) [e.2.1, f.code] ∧
    exec (e.1 f) s = .next (toFloat f (e.2.2 (s.f.get f)) 2#16 s)

/-- R446, R467: a float compare writes S, Z and V by the table and no register; the jumps after it read it. -/
def Obligations.FloatCompare : Prop :=
  ∀ (f g : FReg) (b : Word) (s : State),
    Encodes (.cmpFf f g) [0xEC#8, regPair f.code g.code] ∧ EncodesRK (.cmpFk f b) 0xFC#8 f.code b ∧
    exec (.cmpFf f g) s =
      .next { s with flag := floatFlags (Config.fcmp (s.f.get f) (s.f.get g)) s.flag, pc := s.pc + 2#16 } ∧
    exec (.cmpFk f b) s =
      .next { s with flag := floatFlags (Config.fcmp (s.f.get f) b) s.flag, pc := s.pc + 4#16 } ∧
    ∃ t u, exec (.cmpFf f g) s = .next t ∧ exec (.cmpFk f b) s = .next u ∧ ∀ e ∈ floatTaken, ∀ k : Word,
      exec (e.1 k) t = .next (jump (e.2 (Config.fcmp (s.f.get f) (s.f.get g))) k t) ∧
      exec (e.1 k) u = .next (jump (e.2 (Config.fcmp (s.f.get f) b)) k u)
end

