-- ==== Sys2Proof/Laws/Decode.lean ====
section
/-! SUPPORT. Codes, register bytes and constants: what was encoded is read back. -/
namespace Sys2Proof

@[simp] theorem Reg8.ofCode_code (r : Reg8) : Reg8.ofCode r.code.toNat = some r := by cases r <;> rfl
@[simp] theorem Reg16.ofCode_code (r : Reg16) : Reg16.ofCode r.code.toNat = some r := by cases r <;> rfl
@[simp] theorem FReg.ofCode_code (r : FReg) : FReg.ofCode r.code.toNat = some r := by cases r <;> rfl

theorem Reg8.ofCode_eq_some {n : Nat} {r : Reg8} : Reg8.ofCode n = some r ↔ n = r.code.toNat := by
  constructor
  · intro h
    unfold Reg8.ofCode at h
    split at h <;> simp at h <;> subst h <;> rfl
  · rintro rfl; exact Reg8.ofCode_code r

theorem Reg16.ofCode_eq_some {n : Nat} {r : Reg16} : Reg16.ofCode n = some r ↔ n = r.code.toNat := by
  constructor
  · intro h
    unfold Reg16.ofCode at h
    split at h <;> simp at h <;> subst h <;> rfl
  · rintro rfl; exact Reg16.ofCode_code r

theorem FReg.ofCode_eq_some {n : Nat} {r : FReg} : FReg.ofCode n = some r ↔ n = r.code.toNat := by
  constructor
  · intro h
    unfold FReg.ofCode at h
    split at h <;> simp at h <;> subst h <;> rfl
  · rintro rfl; exact FReg.ofCode_code r

theorem Reg8.code_lt (r : Reg8) : r.code.toNat < 16 := by cases r <;> decide
theorem Reg16.code_lt (r : Reg16) : r.code.toNat < 16 := by cases r <;> decide
theorem FReg.code_lt (r : FReg) : r.code.toNat < 16 := by cases r <;> decide

/-- The register byte of two codes as a number: r1 the high digit, r2 the low one (R115). -/
theorem pairByte_toNat {a b : Byte} (ha : a.toNat < 16) (hb : b.toNat < 16) :
    (pairByte a b).toNat = a.toNat * 16 + b.toNat := by
  unfold pairByte
  rw [BitVec.toNat_or, BitVec.toNat_shiftLeft, Nat.shiftLeft_eq,
    Nat.mod_eq_of_lt (by omega : a.toNat * 2 ^ 4 < 2 ^ 8)]
  have := Nat.shiftLeft_add_eq_or_of_lt (i := 4) (by omega : b.toNat < 2 ^ 4) a.toNat
  rw [Nat.shiftLeft_eq] at this
  omega

@[simp] theorem wordOf_hiByte_loByte (v : Word) : wordOf (hiByte v) (loByte v) = v := by
  unfold wordOf hiByte loByte
  ext i hi
  rw [BitVec.getElem_append]
  split
  · next h => rw [BitVec.getElem_extractLsb', Nat.zero_add, BitVec.getLsbD_eq_getElem]
  · next h =>
    rw [BitVec.getElem_extractLsb', show 8 + (i - 8) = i by omega, BitVec.getLsbD_eq_getElem]

@[simp] theorem hiByte_wordOf (h l : Byte) : hiByte (wordOf h l) = h := by
  unfold wordOf hiByte
  ext i hi
  rw [BitVec.getElem_extractLsb', BitVec.getLsbD_append, if_neg (by omega), Nat.add_sub_cancel_left,
    BitVec.getLsbD_eq_getElem]

@[simp] theorem loByte_wordOf (h l : Byte) : loByte (wordOf h l) = l := by
  unfold wordOf loByte
  ext i hi
  rw [BitVec.getElem_extractLsb', Nat.zero_add, BitVec.getLsbD_append, if_pos hi, BitVec.getLsbD_eq_getElem]

/-- A constant's two bytes join to the constant, in either byte order (R128). -/
@[simp] theorem joinWord_bytes (o : ByteOrder) (v : Word) : joinWord o (firstByte o v) (secondByte o v) = v := by
  cases o <;> simp [joinWord, firstByte, secondByte]

/-- A constant of two bytes is read back (R114). -/
theorem decodeOperands_k16 {cfg : Config} {op : Byte} {mk : Word → Instr} (k : Word) (rest : List Byte) :
    decodeOperands cfg op (.k16 mk) (wordBytes cfg.byteOrder k ++ rest) = .ok (mk k, rest) := by
  simp [decodeOperands, wordBytes]

/-- A register byte with one code is read back (R118, R119). -/
theorem decodeOperands_single {α : Type} {cfg : Config} {op : Byte} {code : Nat → Option α} {mk : α → Instr} {r : α}
    {c : Byte} (h : code c.toNat = some r) (rest : List Byte) :
    decodeOperands cfg op (.single code mk) (c :: rest) = .ok (mk r, rest) := by
  simp [decodeOperands, Form.single, h]

/-- A register byte with one code and a constant are read back (R116, R117). -/
theorem decodeOperands_singleK {α : Type} {cfg : Config} {op : Byte} {code : Nat → Option α} {mk : α → Word → Instr}
    {r : α} {c : Byte} (h : code c.toNat = some r) (k : Word) (rest : List Byte) :
    decodeOperands cfg op (.singleK code mk) (c :: wordBytes cfg.byteOrder k ++ rest) = .ok (mk r k, rest) := by
  simp [decodeOperands, Form.singleK, h, wordBytes]

/-- A register byte with two codes is read back (R115). -/
theorem decodeOperands_pair {α β : Type} {cfg : Config} {op : Byte} {first : Nat → Option α} {second : Nat → Option β}
    {mk : α → β → Instr} {d : α} {s : β} {c1 c2 : Byte} (h1 : first c1.toNat = some d) (h2 : second c2.toNat = some s)
    (l1 : c1.toNat < 16) (l2 : c2.toNat < 16) (rest : List Byte) :
    decodeOperands cfg op (.pair first second mk) (pairByte c1 c2 :: rest) = .ok (mk d s, rest) := by
  have h := pairByte_toNat l1 l2
  have hd : (pairByte c1 c2).toNat / 16 = c1.toNat := by omega
  have hs : (pairByte c1 c2).toNat % 16 = c2.toNat := by omega
  simp [decodeOperands, Form.pair, hd, hs, h1, h2]

end Sys2Proof
end

