-- ==== Sys2Proof/Laws/Events.lean ====
section
/-! SUPPORT. The event stream: what each form offers now and later, and when a request is taken. -/
namespace Sys2Proof.Machine

@[simp] theorem EventStream.head_offer (o : Offer) (e : EventStream) : (EventStream.offer o e).head = o := rfl
@[simp] theorem EventStream.head_cycle_nil : (EventStream.cycle []).head = .quiet := rfl
@[simp] theorem EventStream.head_cycle_cons (o : Offer) (l : List Offer) : (EventStream.cycle (o :: l)).head = o := rfl
@[simp] theorem EventStream.head_oracle (n : Nat) : (EventStream.oracle n).head = Config.extEvents n := rfl
@[simp] theorem EventStream.tail_offer (o : Offer) (e : EventStream) : (EventStream.offer o e).tail = e := rfl
@[simp] theorem EventStream.tail_cycle_nil : (EventStream.cycle []).tail = .cycle [] := rfl
@[simp] theorem EventStream.tail_cycle_cons (o : Offer) (l : List Offer) :
    (EventStream.cycle (o :: l)).tail = .cycle (l ++ [o]) := rfl
@[simp] theorem EventStream.tail_oracle (n : Nat) : (EventStream.oracle n).tail = .oracle (n + 1) := rfl
@[simp] theorem EventStream.drop_zero (e : EventStream) : e.drop 0 = e := rfl
theorem EventStream.drop_succ (e : EventStream) (n : Nat) : e.drop (n + 1) = e.tail.drop n := rfl

/-- The boundary after the next `n` ones. -/
theorem EventStream.tail_drop (e : EventStream) (n : Nat) : (e.drop n).tail = e.drop (n + 1) := by
  induction n generalizing e with
  | zero => rfl
  | succ n ih => exact ih e.tail

/-- The stream of the oracle offers what the oracle says of each boundary (R497). -/
theorem EventStream.drop_oracle (b n : Nat) : (EventStream.oracle b).drop n = .oracle (b + n) := by
  induction n generalizing b with
  | zero => rfl
  | succ n ih => rw [EventStream.drop_succ, tail_oracle, ih, Nat.add_assoc, Nat.add_comm 1]

/-- A line that keeps offering stays as it is (R496). -/
theorem EventStream.drop_cycle_singleton (o : Offer) (n : Nat) : (EventStream.cycle [o]).drop n = .cycle [o] := by
  induction n with
  | zero => rfl
  | succ n ih => exact ih

/-- What an offer comes to (R496): a non-maskable request always and first, a maskable one when I is 1. -/
theorem requestTaken_eq_some {o : Offer} {i : Bool} {k : TrapKind} :
    requestTaken o i = some k ↔
      (o.nmi = true ∧ k = .extNmi) ∨ (o.nmi = false ∧ o.irq = true ∧ i = true ∧ k = .extIrq) := by
  rcases o with ⟨n, q⟩
  cases n <;> cases q <;> cases i <;> simp [requestTaken, eq_comm]

/-- Nothing is taken (R496): no non-maskable request, and no maskable one that I lets through. -/
theorem requestTaken_eq_none {o : Offer} {i : Bool} :
    requestTaken o i = none ↔ o.nmi = false ∧ (o.irq = true → i = false) := by
  rcases o with ⟨n, q⟩
  cases n <;> cases q <;> cases i <;> simp [requestTaken]

end Sys2Proof.Machine
end

