-- ==== Sys2Proof/Laws/Memory.lean ====
section
/-! SUPPORT. Memory: a read after a write, and that every memory operation keeps the canonical form. -/
namespace Sys2Proof.Machine

theorem Memory.read_nil (a : Word) : Memory.read [] a = Config.unloadedByte := rfl

theorem Memory.read_cons (c : Host.Cell) (m : Memory) (a : Word) :
    Memory.read (c :: m) a = if c.1 = a.toNat then c.2 else Memory.read m a := rfl

theorem Memory.read_without (m : Memory) (n : Nat) (a : Word) :
    (Memory.without m n).read a = if a.toNat = n then Config.unloadedByte else m.read a := by
  induction m with
  | nil => simp [Memory.without, Memory.read]
  | cons c rest ih =>
    unfold Memory.without at *
    by_cases hc : c.1 = n
    · rw [List.filter_cons_of_neg (by simp [hc]), ih, Memory.read_cons, hc]
      by_cases ha : a.toNat = n
      · simp [ha]
      · rw [if_neg ha, if_neg ha, if_neg (fun h => ha h.symm)]
    · rw [List.filter_cons_of_pos (by simp [hc]), Memory.read_cons, ih, Memory.read_cons]
      by_cases h : c.1 = a.toNat
      · rw [if_pos h, if_pos h, if_neg (fun ha => hc (h.trans ha))]
      · rw [if_neg h, if_neg h]

theorem Memory.read_place (m : Memory) (n : Nat) (v : Byte) (a : Word)
    (h : ∀ c ∈ m, c.1 ≠ n) :
    (Memory.place m (n, v)).read a = if a.toNat = n then v else m.read a := by
  induction m with
  | nil => simp [Memory.place, Memory.read, eq_comm]
  | cons c rest ih =>
    unfold Memory.place
    split
    · simp [Memory.read_cons, eq_comm]
    · have hc : c.1 ≠ n := h c (by simp)
      rw [Memory.read_cons, ih (fun d hd => h d (by simp [hd])), Memory.read_cons]
      by_cases hca : c.1 = a.toNat
      · rw [if_pos hca, if_pos hca, if_neg (fun ha => hc (hca.trans ha))]
      · rw [if_neg hca, if_neg hca]

theorem Memory.mem_without {m : Memory} {n : Nat} {c : Host.Cell} :
    c ∈ Memory.without m n ↔ c ∈ m ∧ c.1 ≠ n := by
  simp [Memory.without]

/-- A read after a write (R82, R83): the byte written at its address, every other byte as it was. -/
theorem Memory.read_write (m : Memory) (a b : Word) (v : Byte) :
    (m.write a v).read b = if b = a then v else m.read b := by
  have hab : b.toNat = a.toNat ↔ b = a := BitVec.toNat_inj
  unfold Memory.write
  split
  · next hv => rw [Memory.read_without, hv]; simp [hab]
  · rw [Memory.read_place _ _ _ _ (fun c hc => (Memory.mem_without.1 hc).2), Memory.read_without]
    by_cases h : b = a
    · simp [h]
    · rw [if_neg (hab.not.2 h), if_neg (hab.not.2 h), if_neg h]

@[simp] theorem Memory.read_write_same (m : Memory) (a : Word) (v : Byte) : (m.write a v).read a = v := by
  simp [Memory.read_write]

theorem Memory.read_write_other (m : Memory) {a b : Word} (v : Byte) (h : b ≠ a) :
    (m.write a v).read b = m.read b := by
  simp [Memory.read_write, h]

theorem Memory.wf_nil : Memory.wf [] := ⟨List.Pairwise.nil, by simp⟩

theorem Memory.without_wf {m : Memory} (n : Nat) (h : m.wf) : (Memory.without m n).wf :=
  ⟨h.1.filter _, fun c hc => h.2 c (Memory.mem_without.1 hc).1⟩

theorem Memory.mem_place {m : Memory} {c d : Host.Cell} : d ∈ Memory.place m c ↔ d = c ∨ d ∈ m := by
  induction m with
  | nil => simp [Memory.place]
  | cons e rest ih =>
    unfold Memory.place
    split
    · simp
    · simp [ih, or_left_comm]

theorem Memory.place_sorted {m : Memory} {c : Host.Cell} (h : m.Pairwise (fun d e => d.1 < e.1))
    (hc : ∀ d ∈ m, d.1 ≠ c.1) : (Memory.place m c).Pairwise (fun d e => d.1 < e.1) := by
  induction m with
  | nil => simp [Memory.place]
  | cons e rest ih =>
    have ⟨he, hrest⟩ := List.pairwise_cons.1 h
    unfold Memory.place
    split
    · next hlt =>
      exact List.pairwise_cons.2 ⟨fun d hd => by
        rcases List.mem_cons.1 hd with rfl | hd
        · exact hlt
        · exact hlt.trans (he d hd), h⟩
    · next hlt =>
      refine List.pairwise_cons.2 ⟨fun d hd => ?_, ih hrest fun d hd => hc d (by simp [hd])⟩
      rcases Memory.mem_place.1 hd with rfl | hd
      · have := hc e (by simp); omega
      · exact he d hd

/-- A write keeps the canonical form. -/
theorem Memory.write_wf {m : Memory} (a : Word) (v : Byte) (h : m.wf) : (m.write a v).wf := by
  have hw := Memory.without_wf a.toNat h
  unfold Memory.write
  split
  · exact hw
  · next hv =>
    refine ⟨Memory.place_sorted hw.1 fun d hd => (Memory.mem_without.1 hd).2, fun c hc => ?_⟩
    rcases Memory.mem_place.1 hc with rfl | hc
    · exact ⟨a.isLt, hv⟩
    · exact hw.2 c hc

/-- Loading bytes keeps the canonical form. -/
theorem Memory.load_wf (bytes : List Byte) {m : Memory} (a : Word) (h : m.wf) : (m.load a bytes).wf := by
  induction bytes generalizing m a with
  | nil => exact h
  | cons b rest ih => exact ih (a + 1#16) (Memory.write_wf a b h)

/-- An image keeps the canonical form. -/
theorem Memory.image_wf (cells : List (Word × Byte)) {m : Memory} (h : m.wf) : (m.image cells).wf := by
  induction cells generalizing m with
  | nil => exact h
  | cons c rest ih => exact ih (Memory.write_wf c.1 c.2 h)

theorem State.withWord_wf {s : State} (a v : Word) (h : s.mem.wf) : (s.withWord a v).wf :=
  Memory.write_wf _ _ (Memory.write_wf _ _ h)

theorem Word.ne_add_one (a : Word) : a ≠ a + 1#16 := by
  intro h
  have h' := congrArg BitVec.toNat h
  rw [BitVec.toNat_add] at h'
  have := a.isLt
  have : (1#16).toNat = 1 := rfl
  omega

/-- A word written: its first byte at the address, its second at the next one, every other byte as it was (R83). -/
theorem State.read_withWord (s : State) (a v b : Word) :
    (s.withWord a v).read b =
      if b = a then firstByte s.cfg.byteOrder v
      else if b = a + 1#16 then secondByte s.cfg.byteOrder v else s.mem.read b := by
  unfold State.withWord
  rw [Memory.read_write, Memory.read_write]
  by_cases h : b = a
  · subst h; rw [if_neg (Word.ne_add_one b), if_pos rfl, if_pos rfl]
  · simp [h]

end Sys2Proof.Machine
end

