-- ==== Sys2Proof/Laws/State.lean ====
section
/-! SUPPORT. What each update of the state changes and leaves alone: one lemma per field per update, all by `rfl`. -/
namespace Sys2Proof.Machine

variable (s : State)

@[simp] theorem State.setPc_cfg (v : Word) : (s.setPc v).cfg = s.cfg := rfl
@[simp] theorem State.setPc_pc (v : Word) : (s.setPc v).pc = v := rfl
@[simp] theorem State.setPc_sp (v : Word) : (s.setPc v).sp = s.sp := rfl
@[simp] theorem State.setPc_a (v : Word) : (s.setPc v).a = s.a := rfl
@[simp] theorem State.setPc_flag (v : Word) : (s.setPc v).flag = s.flag := rfl
@[simp] theorem State.setPc_x (v : Word) : (s.setPc v).x = s.x := rfl
@[simp] theorem State.setPc_f (v : Word) : (s.setPc v).f = s.f := rfl
@[simp] theorem State.setPc_shadowA (v : Word) : (s.setPc v).shadowA = s.shadowA := rfl
@[simp] theorem State.setPc_shadowFlag (v : Word) : (s.setPc v).shadowFlag = s.shadowFlag := rfl
@[simp] theorem State.setPc_shadowX (v : Word) : (s.setPc v).shadowX = s.shadowX := rfl
@[simp] theorem State.setPc_shadowF (v : Word) : (s.setPc v).shadowF = s.shadowF := rfl
@[simp] theorem State.setPc_status (v : Word) : (s.setPc v).status = s.status := rfl
@[simp] theorem State.setPc_mem (v : Word) : (s.setPc v).mem = s.mem := rfl
@[simp] theorem State.setPc_events (v : Word) : (s.setPc v).events = s.events := rfl

@[simp] theorem State.setSp_cfg (v : Word) : (s.setSp v).cfg = s.cfg := rfl
@[simp] theorem State.setSp_pc (v : Word) : (s.setSp v).pc = s.pc := rfl
@[simp] theorem State.setSp_sp (v : Word) : (s.setSp v).sp = v := rfl
@[simp] theorem State.setSp_a (v : Word) : (s.setSp v).a = s.a := rfl
@[simp] theorem State.setSp_flag (v : Word) : (s.setSp v).flag = s.flag := rfl
@[simp] theorem State.setSp_x (v : Word) : (s.setSp v).x = s.x := rfl
@[simp] theorem State.setSp_f (v : Word) : (s.setSp v).f = s.f := rfl
@[simp] theorem State.setSp_shadowA (v : Word) : (s.setSp v).shadowA = s.shadowA := rfl
@[simp] theorem State.setSp_shadowFlag (v : Word) : (s.setSp v).shadowFlag = s.shadowFlag := rfl
@[simp] theorem State.setSp_shadowX (v : Word) : (s.setSp v).shadowX = s.shadowX := rfl
@[simp] theorem State.setSp_shadowF (v : Word) : (s.setSp v).shadowF = s.shadowF := rfl
@[simp] theorem State.setSp_status (v : Word) : (s.setSp v).status = s.status := rfl
@[simp] theorem State.setSp_mem (v : Word) : (s.setSp v).mem = s.mem := rfl
@[simp] theorem State.setSp_events (v : Word) : (s.setSp v).events = s.events := rfl

@[simp] theorem State.setA_cfg (v : Byte) : (s.setA v).cfg = s.cfg := rfl
@[simp] theorem State.setA_pc (v : Byte) : (s.setA v).pc = s.pc := rfl
@[simp] theorem State.setA_sp (v : Byte) : (s.setA v).sp = s.sp := rfl
@[simp] theorem State.setA_a (v : Byte) : (s.setA v).a = v := rfl
@[simp] theorem State.setA_flag (v : Byte) : (s.setA v).flag = s.flag := rfl
@[simp] theorem State.setA_x (v : Byte) : (s.setA v).x = s.x := rfl
@[simp] theorem State.setA_f (v : Byte) : (s.setA v).f = s.f := rfl
@[simp] theorem State.setA_shadowA (v : Byte) : (s.setA v).shadowA = s.shadowA := rfl
@[simp] theorem State.setA_shadowFlag (v : Byte) : (s.setA v).shadowFlag = s.shadowFlag := rfl
@[simp] theorem State.setA_shadowX (v : Byte) : (s.setA v).shadowX = s.shadowX := rfl
@[simp] theorem State.setA_shadowF (v : Byte) : (s.setA v).shadowF = s.shadowF := rfl
@[simp] theorem State.setA_status (v : Byte) : (s.setA v).status = s.status := rfl
@[simp] theorem State.setA_mem (v : Byte) : (s.setA v).mem = s.mem := rfl
@[simp] theorem State.setA_events (v : Byte) : (s.setA v).events = s.events := rfl

@[simp] theorem State.setFlag_cfg (v : Flags) : (s.setFlag v).cfg = s.cfg := rfl
@[simp] theorem State.setFlag_pc (v : Flags) : (s.setFlag v).pc = s.pc := rfl
@[simp] theorem State.setFlag_sp (v : Flags) : (s.setFlag v).sp = s.sp := rfl
@[simp] theorem State.setFlag_a (v : Flags) : (s.setFlag v).a = s.a := rfl
@[simp] theorem State.setFlag_flag (v : Flags) : (s.setFlag v).flag = v := rfl
@[simp] theorem State.setFlag_x (v : Flags) : (s.setFlag v).x = s.x := rfl
@[simp] theorem State.setFlag_f (v : Flags) : (s.setFlag v).f = s.f := rfl
@[simp] theorem State.setFlag_shadowA (v : Flags) : (s.setFlag v).shadowA = s.shadowA := rfl
@[simp] theorem State.setFlag_shadowFlag (v : Flags) : (s.setFlag v).shadowFlag = s.shadowFlag := rfl
@[simp] theorem State.setFlag_shadowX (v : Flags) : (s.setFlag v).shadowX = s.shadowX := rfl
@[simp] theorem State.setFlag_shadowF (v : Flags) : (s.setFlag v).shadowF = s.shadowF := rfl
@[simp] theorem State.setFlag_status (v : Flags) : (s.setFlag v).status = s.status := rfl
@[simp] theorem State.setFlag_mem (v : Flags) : (s.setFlag v).mem = s.mem := rfl
@[simp] theorem State.setFlag_events (v : Flags) : (s.setFlag v).events = s.events := rfl

@[simp] theorem State.setX_cfg (v : Regs) : (s.setX v).cfg = s.cfg := rfl
@[simp] theorem State.setX_pc (v : Regs) : (s.setX v).pc = s.pc := rfl
@[simp] theorem State.setX_sp (v : Regs) : (s.setX v).sp = s.sp := rfl
@[simp] theorem State.setX_a (v : Regs) : (s.setX v).a = s.a := rfl
@[simp] theorem State.setX_flag (v : Regs) : (s.setX v).flag = s.flag := rfl
@[simp] theorem State.setX_x (v : Regs) : (s.setX v).x = v := rfl
@[simp] theorem State.setX_f (v : Regs) : (s.setX v).f = s.f := rfl
@[simp] theorem State.setX_shadowA (v : Regs) : (s.setX v).shadowA = s.shadowA := rfl
@[simp] theorem State.setX_shadowFlag (v : Regs) : (s.setX v).shadowFlag = s.shadowFlag := rfl
@[simp] theorem State.setX_shadowX (v : Regs) : (s.setX v).shadowX = s.shadowX := rfl
@[simp] theorem State.setX_shadowF (v : Regs) : (s.setX v).shadowF = s.shadowF := rfl
@[simp] theorem State.setX_status (v : Regs) : (s.setX v).status = s.status := rfl
@[simp] theorem State.setX_mem (v : Regs) : (s.setX v).mem = s.mem := rfl
@[simp] theorem State.setX_events (v : Regs) : (s.setX v).events = s.events := rfl

@[simp] theorem State.setF_cfg (v : FRegs) : (s.setF v).cfg = s.cfg := rfl
@[simp] theorem State.setF_pc (v : FRegs) : (s.setF v).pc = s.pc := rfl
@[simp] theorem State.setF_sp (v : FRegs) : (s.setF v).sp = s.sp := rfl
@[simp] theorem State.setF_a (v : FRegs) : (s.setF v).a = s.a := rfl
@[simp] theorem State.setF_flag (v : FRegs) : (s.setF v).flag = s.flag := rfl
@[simp] theorem State.setF_x (v : FRegs) : (s.setF v).x = s.x := rfl
@[simp] theorem State.setF_f (v : FRegs) : (s.setF v).f = v := rfl
@[simp] theorem State.setF_shadowA (v : FRegs) : (s.setF v).shadowA = s.shadowA := rfl
@[simp] theorem State.setF_shadowFlag (v : FRegs) : (s.setF v).shadowFlag = s.shadowFlag := rfl
@[simp] theorem State.setF_shadowX (v : FRegs) : (s.setF v).shadowX = s.shadowX := rfl
@[simp] theorem State.setF_shadowF (v : FRegs) : (s.setF v).shadowF = s.shadowF := rfl
@[simp] theorem State.setF_status (v : FRegs) : (s.setF v).status = s.status := rfl
@[simp] theorem State.setF_mem (v : FRegs) : (s.setF v).mem = s.mem := rfl
@[simp] theorem State.setF_events (v : FRegs) : (s.setF v).events = s.events := rfl

@[simp] theorem State.setStatus_cfg (v : Status) : (s.setStatus v).cfg = s.cfg := rfl
@[simp] theorem State.setStatus_pc (v : Status) : (s.setStatus v).pc = s.pc := rfl
@[simp] theorem State.setStatus_sp (v : Status) : (s.setStatus v).sp = s.sp := rfl
@[simp] theorem State.setStatus_a (v : Status) : (s.setStatus v).a = s.a := rfl
@[simp] theorem State.setStatus_flag (v : Status) : (s.setStatus v).flag = s.flag := rfl
@[simp] theorem State.setStatus_x (v : Status) : (s.setStatus v).x = s.x := rfl
@[simp] theorem State.setStatus_f (v : Status) : (s.setStatus v).f = s.f := rfl
@[simp] theorem State.setStatus_shadowA (v : Status) : (s.setStatus v).shadowA = s.shadowA := rfl
@[simp] theorem State.setStatus_shadowFlag (v : Status) : (s.setStatus v).shadowFlag = s.shadowFlag := rfl
@[simp] theorem State.setStatus_shadowX (v : Status) : (s.setStatus v).shadowX = s.shadowX := rfl
@[simp] theorem State.setStatus_shadowF (v : Status) : (s.setStatus v).shadowF = s.shadowF := rfl
@[simp] theorem State.setStatus_status (v : Status) : (s.setStatus v).status = v := rfl
@[simp] theorem State.setStatus_mem (v : Status) : (s.setStatus v).mem = s.mem := rfl
@[simp] theorem State.setStatus_events (v : Status) : (s.setStatus v).events = s.events := rfl

@[simp] theorem State.setMem_cfg (v : Memory) : (s.setMem v).cfg = s.cfg := rfl
@[simp] theorem State.setMem_pc (v : Memory) : (s.setMem v).pc = s.pc := rfl
@[simp] theorem State.setMem_sp (v : Memory) : (s.setMem v).sp = s.sp := rfl
@[simp] theorem State.setMem_a (v : Memory) : (s.setMem v).a = s.a := rfl
@[simp] theorem State.setMem_flag (v : Memory) : (s.setMem v).flag = s.flag := rfl
@[simp] theorem State.setMem_x (v : Memory) : (s.setMem v).x = s.x := rfl
@[simp] theorem State.setMem_f (v : Memory) : (s.setMem v).f = s.f := rfl
@[simp] theorem State.setMem_shadowA (v : Memory) : (s.setMem v).shadowA = s.shadowA := rfl
@[simp] theorem State.setMem_shadowFlag (v : Memory) : (s.setMem v).shadowFlag = s.shadowFlag := rfl
@[simp] theorem State.setMem_shadowX (v : Memory) : (s.setMem v).shadowX = s.shadowX := rfl
@[simp] theorem State.setMem_shadowF (v : Memory) : (s.setMem v).shadowF = s.shadowF := rfl
@[simp] theorem State.setMem_status (v : Memory) : (s.setMem v).status = s.status := rfl
@[simp] theorem State.setMem_mem (v : Memory) : (s.setMem v).mem = v := rfl
@[simp] theorem State.setMem_events (v : Memory) : (s.setMem v).events = s.events := rfl

@[simp] theorem State.setEvents_cfg (v : EventStream) : (s.setEvents v).cfg = s.cfg := rfl
@[simp] theorem State.setEvents_pc (v : EventStream) : (s.setEvents v).pc = s.pc := rfl
@[simp] theorem State.setEvents_sp (v : EventStream) : (s.setEvents v).sp = s.sp := rfl
@[simp] theorem State.setEvents_a (v : EventStream) : (s.setEvents v).a = s.a := rfl
@[simp] theorem State.setEvents_flag (v : EventStream) : (s.setEvents v).flag = s.flag := rfl
@[simp] theorem State.setEvents_x (v : EventStream) : (s.setEvents v).x = s.x := rfl
@[simp] theorem State.setEvents_f (v : EventStream) : (s.setEvents v).f = s.f := rfl
@[simp] theorem State.setEvents_shadowA (v : EventStream) : (s.setEvents v).shadowA = s.shadowA := rfl
@[simp] theorem State.setEvents_shadowFlag (v : EventStream) : (s.setEvents v).shadowFlag = s.shadowFlag := rfl
@[simp] theorem State.setEvents_shadowX (v : EventStream) : (s.setEvents v).shadowX = s.shadowX := rfl
@[simp] theorem State.setEvents_shadowF (v : EventStream) : (s.setEvents v).shadowF = s.shadowF := rfl
@[simp] theorem State.setEvents_status (v : EventStream) : (s.setEvents v).status = s.status := rfl
@[simp] theorem State.setEvents_mem (v : EventStream) : (s.setEvents v).mem = s.mem := rfl
@[simp] theorem State.setEvents_events (v : EventStream) : (s.setEvents v).events = v := rfl

@[simp] theorem State.advance_cfg (n : Word) : (s.advance n).cfg = s.cfg := rfl
@[simp] theorem State.advance_pc (n : Word) : (s.advance n).pc = s.pc + n := rfl
@[simp] theorem State.advance_sp (n : Word) : (s.advance n).sp = s.sp := rfl
@[simp] theorem State.advance_a (n : Word) : (s.advance n).a = s.a := rfl
@[simp] theorem State.advance_flag (n : Word) : (s.advance n).flag = s.flag := rfl
@[simp] theorem State.advance_x (n : Word) : (s.advance n).x = s.x := rfl
@[simp] theorem State.advance_f (n : Word) : (s.advance n).f = s.f := rfl
@[simp] theorem State.advance_shadowA (n : Word) : (s.advance n).shadowA = s.shadowA := rfl
@[simp] theorem State.advance_shadowFlag (n : Word) : (s.advance n).shadowFlag = s.shadowFlag := rfl
@[simp] theorem State.advance_shadowX (n : Word) : (s.advance n).shadowX = s.shadowX := rfl
@[simp] theorem State.advance_shadowF (n : Word) : (s.advance n).shadowF = s.shadowF := rfl
@[simp] theorem State.advance_status (n : Word) : (s.advance n).status = s.status := rfl
@[simp] theorem State.advance_mem (n : Word) : (s.advance n).mem = s.mem := rfl
@[simp] theorem State.advance_events (n : Word) : (s.advance n).events = s.events := rfl

@[simp] theorem State.setI_cfg (v : Bool) : (s.setI v).cfg = s.cfg := rfl
@[simp] theorem State.setI_pc (v : Bool) : (s.setI v).pc = s.pc := rfl
@[simp] theorem State.setI_sp (v : Bool) : (s.setI v).sp = s.sp := rfl
@[simp] theorem State.setI_a (v : Bool) : (s.setI v).a = s.a := rfl
@[simp] theorem State.setI_flag (v : Bool) : (s.setI v).flag = { s.flag with i := v } := rfl
@[simp] theorem State.setI_x (v : Bool) : (s.setI v).x = s.x := rfl
@[simp] theorem State.setI_f (v : Bool) : (s.setI v).f = s.f := rfl
@[simp] theorem State.setI_shadowA (v : Bool) : (s.setI v).shadowA = s.shadowA := rfl
@[simp] theorem State.setI_shadowFlag (v : Bool) : (s.setI v).shadowFlag = s.shadowFlag := rfl
@[simp] theorem State.setI_shadowX (v : Bool) : (s.setI v).shadowX = s.shadowX := rfl
@[simp] theorem State.setI_shadowF (v : Bool) : (s.setI v).shadowF = s.shadowF := rfl
@[simp] theorem State.setI_status (v : Bool) : (s.setI v).status = s.status := rfl
@[simp] theorem State.setI_mem (v : Bool) : (s.setI v).mem = s.mem := rfl
@[simp] theorem State.setI_events (v : Bool) : (s.setI v).events = s.events := rfl

end Sys2Proof.Machine
end

