-- ==== Sys2Proof/Laws/Ops.lean ====
section
/-! SUPPORT. What each shared operation can do, said once: when it answers a next state, and which. -/
namespace Sys2Proof.Machine

variable {α β : Type}

@[simp] theorem andThen_next (a : α) (k : α → Res β) : andThen (.next a) k = k a := rfl
@[simp] theorem andThen_fault (e : Fault) (k : α → Res β) : andThen (.fault e) k = .fault e := rfl
@[simp] theorem andThen_refused (e : Refusal) (k : α → Res β) : andThen (.refused e) k = .refused e := rfl

/-- Going on answers a value only where both parts do. -/
theorem andThen_eq_next {r : Res α} {k : α → Res β} {b : β} :
    andThen r k = .next b ↔ ∃ a, r = .next a ∧ k a = .next b := by
  cases r <;> simp

/-- An access is let through exactly where `allows` says so. -/
theorem access_eq_next {cfg : Config} {q : Access} : access cfg q = .next () ↔ allows cfg q = true := by
  unfold access allows
  split
  · next h =>
    simp only [List.any_eq_true] at h
    obtain ⟨a, ha, hd⟩ := h
    simp only [reduceCtorEq, List.all_eq_true, false_iff, not_forall]
    exact ⟨a, ha, by simp [hd]⟩
  · next h =>
    simp only [List.any_eq_true, not_exists, not_and] at h
    split
    · next a hf =>
      have hm := List.mem_of_find?_eq_some hf
      have hp := List.find?_some hf
      simp only [reduceCtorEq, List.all_eq_true, false_iff, not_forall]
      exact ⟨a, hm, by simp at hp; simp [hp]⟩
    · next hf =>
      simp only [List.find?_eq_none] at hf
      simp only [List.all_eq_true, true_iff]
      exact fun a ha => by simpa [h a ha] using hf a ha

theorem access_of_allows {cfg : Config} {q : Access} (h : allows cfg q = true) : access cfg q = .next () :=
  access_eq_next.2 h

/-- What comes after an access is reached exactly where the access is let through. -/
theorem andThen_access_eq_next {cfg : Config} {q : Access} {v w : α} :
    (andThen (access cfg q) fun _ => Host.Outcome.next v) = .next w ↔ allows cfg q = true ∧ w = v := by
  rw [andThen_eq_next, ← access_eq_next]
  constructor
  · rintro ⟨_, h, hv⟩; exact ⟨h, by injection hv with hv; exact hv.symm⟩
  · rintro ⟨h, rfl⟩; exact ⟨(), h, rfl⟩

theorem memRead8_eq_next {a : Word} {s : State} {v : Byte} :
    memRead8 a s = .next v ↔ allows s.cfg (readOf a .byte) = true ∧ v = s.mem.read a :=
  andThen_access_eq_next

theorem memRead16_eq_next {a : Word} {s : State} {v : Word} :
    memRead16 a s = .next v ↔ allows s.cfg (readOf a .word) = true ∧ v = s.wordAt a :=
  andThen_access_eq_next

theorem memWrite8_eq_next {a : Word} {v : Byte} {s t : State} :
    memWrite8 a v s = .next t ↔ allows s.cfg (writeOf a .byte) = true ∧ t = s.setMem (s.mem.write a v) :=
  andThen_access_eq_next

theorem memWrite16_eq_next {a v : Word} {s t : State} :
    memWrite16 a v s = .next t ↔ allows s.cfg (writeOf a .word) = true ∧ t = s.setMem (s.withWord a v) :=
  andThen_access_eq_next

theorem push8_eq_next {v : Byte} {s t : State} :
    push8 v s = .next t ↔ allows s.cfg (writeOf (s.sp - 1#16) .byte) = true ∧
      t = (s.setSp (s.sp - 1#16)).setMem (s.mem.write (s.sp - 1#16) v) := by
  simp [push8, memWrite8_eq_next]

theorem pull8_eq_next {s : State} {p : Byte × State} :
    pull8 s = .next p ↔ allows s.cfg (readOf s.sp .byte) = true ∧ p = (s.mem.read s.sp, s.setSp (s.sp + 1#16)) := by
  simp only [pull8, andThen_eq_next, memRead8_eq_next]
  constructor
  · rintro ⟨_, ⟨h, rfl⟩, hp⟩; exact ⟨h, by injection hp with hp; exact hp.symm⟩
  · rintro ⟨h, rfl⟩; exact ⟨_, ⟨h, rfl⟩, rfl⟩

theorem push16_eq_next {v : Word} {s t : State} :
    push16 v s = .next t ↔ allows s.cfg (writeOf (s.sp - 2#16) .word) = true ∧
      t = (s.setSp (s.sp - 2#16)).setMem (s.withWord (s.sp - 2#16) v) := by
  simp only [push16, memWrite16_eq_next, State.setSp_cfg]; rfl

theorem pull16_eq_next {s : State} {p : Word × State} :
    pull16 s = .next p ↔ allows s.cfg (readOf s.sp .word) = true ∧ p = (s.wordAt s.sp, s.setSp (s.sp + 2#16)) := by
  simp only [pull16, andThen_eq_next, memRead16_eq_next]
  constructor
  · rintro ⟨_, ⟨h, rfl⟩, hp⟩; exact ⟨h, by injection hp with hp; exact hp.symm⟩
  · rintro ⟨h, rfl⟩; exact ⟨_, ⟨h, rfl⟩, rfl⟩

/-- A trap that is taken (R500): the vector is supplied, the stack takes the return address, and this is the state. -/
theorem trap_eq_next {kind : TrapKind} {s t : State} :
    trap kind s = .next t ↔ ∃ v, vectorOf s.cfg kind = some v ∧ allows s.cfg (writeOf (s.sp - 2#16) .word) = true ∧
      t = ((((s.setSp (s.sp - 2#16)).setMem (s.withWord (s.sp - 2#16) (returnAddress kind s))).setI false).setPc v).setStatus
        .running := by
  unfold trap
  split
  · next h => simp [h]
  · next v h => simp only [andThen_eq_next, push16_eq_next, h]; simp; grind

/-- A return from a trap (R314). -/
theorem returnFromTrap_eq_next {s t : State} :
    returnFromTrap s = .next t ↔ allows s.cfg (readOf s.sp .word) = true ∧
      t = ((s.setSp (s.sp + 2#16)).setPc (s.wordAt s.sp)).setI true := by
  simp only [returnFromTrap, andThen_eq_next, pull16_eq_next]
  constructor
  · rintro ⟨_, ⟨h, rfl⟩, hp⟩; exact ⟨h, by injection hp with hp; exact hp.symm⟩
  · rintro ⟨h, rfl⟩; exact ⟨_, ⟨h, rfl⟩, rfl⟩

/-- Writing an 8-bit operand touches A, the general registers and memory, and nothing else. -/
theorem op8Write_next {r : Reg8} {v : Byte} {s t : State} (h : op8Write r v s = .next t) :
    t = { s with a := t.a, x := t.x, mem := t.mem } ∧ (s.mem.wf → t.mem.wf) := by
  cases r
  case m =>
    obtain ⟨-, rfl⟩ := memWrite8_eq_next.1 h
    exact ⟨rfl, Memory.write_wf _ _⟩
  all_goals
    simp only [op8Write, Host.Outcome.next.injEq] at h
    subst h
    exact ⟨rfl, id⟩

end Sys2Proof.Machine
end

