-- ==== Sys2Proof/Laws/Fetch.lean ====
section
/-! SUPPORT. Instruction fetch: when a byte and a run of bytes are read, where the reading stops, and that the offers
of the platform have no part in it. -/
namespace Sys2Proof.Machine

/-- A denied byte anywhere in an access is its fault (R82, R83). -/
theorem access_of_denied {cfg : Config} {q : Access} {a : Word} (ha : a ∈ q.touched)
    (h : denied q.dir (memKind cfg a) = true) : access cfg q = .fault (.accessFault q) := by
  unfold access
  rw [if_pos (List.any_eq_true.2 ⟨a, ha, h⟩)]

theorem fetchByte_eq_next {addr : Word} {s : State} {v : Byte} :
    fetchByte addr s = .next v ↔ allows s.cfg ⟨addr, .byte, .read, .fetch⟩ = true ∧ v = s.mem.read addr :=
  andThen_access_eq_next

/-- The next address, counted from the one before. -/
theorem Word.succ_add (a : Word) (n : Nat) : a + 1#16 + BitVec.ofNat 16 n = a + BitVec.ofNat 16 (n + 1) := by
  rw [BitVec.add_assoc]
  congr 1
  apply BitVec.eq_of_toNat_eq
  simp
  omega

/-- Bytes that may all be read are read, one after the other (R86). -/
theorem fetchBytes_of_allows (s : State) (k : Nat) (addr : Word)
    (h : ∀ n, n < k → allows s.cfg ⟨addr + BitVec.ofNat 16 n, .byte, .read, .fetch⟩ = true) :
    fetchBytes addr k s = .next ((List.range k).map fun n => s.mem.read (addr + BitVec.ofNat 16 n)) := by
  induction k generalizing addr with
  | zero => rfl
  | succ k ih =>
    have h0 : fetchByte addr s = .next (s.mem.read addr) := fetchByte_eq_next.2 ⟨by simpa using h 0 (by omega), rfl⟩
    have hk := ih (addr + 1#16) fun n hn => by rw [Word.succ_add]; exact h (n + 1) (by omega)
    simp only [fetchBytes, h0, hk, andThen_next, List.range_succ_eq_map, List.map_cons, List.map_map,
      Function.comp_def, Word.succ_add]
    simp

/-- What is offered at the boundaries does not change what is fetched. -/
theorem fetchBytes_setEvents (s : State) (e : EventStream) (n : Nat) (addr : Word) :
    fetchBytes addr n (s.setEvents e) = fetchBytes addr n s := by
  induction n generalizing addr with
  | zero => rfl
  | succ n ih => simp only [fetchBytes, ih]; rfl

theorem fetchInstr_setEvents (s : State) (e : EventStream) : fetchInstr (s.setEvents e) = fetchInstr s := by
  simp only [fetchInstr, fetchBytes_setEvents]; rfl

theorem fetchInstr_passBoundary (s : State) : fetchInstr (passBoundary s) = fetchInstr s :=
  fetchInstr_setEvents s _

end Sys2Proof.Machine
end

