-- ==== Sys2Proof/Laws/Flags.lean ====
section
/-! SUPPORT. Sums and differences: the result and C together are the exact value. -/
namespace Sys2Proof.Machine

variable {w : Nat}

/-- A sum and its carry (R45): nothing of the exact sum is lost. -/
theorem addFlags_exact (a b : BitVec w) (cin : Bool) (f : Flags) :
    (addFlags a b cin f).1.toNat + 2 ^ w * (addFlags a b cin f).2.c.toNat = a.toNat + b.toNat + cin.toNat := by
  simp only [addFlags, BitVec.toNat_ofNat]
  have ha := a.isLt
  have hb := b.isLt
  have hc := Bool.toNat_le cin
  by_cases h : a.toNat + b.toNat + cin.toNat < 2 ^ w
  · rw [Nat.mod_eq_of_lt h]; simp [h]
  · rw [Nat.mod_eq_sub_mod (by omega), Nat.mod_eq_of_lt (by omega)]
    have : 2 ^ w ≤ a.toNat + b.toNat + cin.toNat := by omega
    simp [this]

/-- A difference and its borrow (R45): nothing of the exact difference is lost. -/
theorem subFlags_exact (a b : BitVec w) (bin : Bool) (f : Flags) :
    (subFlags a b bin f).1.toNat + b.toNat + bin.toNat = a.toNat + 2 ^ w * (subFlags a b bin f).2.c.toNat := by
  simp only [subFlags, BitVec.toNat_ofInt]
  have ha := a.isLt
  have hb := b.isLt
  have hc := Bool.toNat_le bin
  have hw : (0 : Int) < (2 ^ w : Nat) := by positivity
  by_cases h : (a.toNat : Int) - b.toNat - bin.toNat < 0
  · have : ((a.toNat : Int) - b.toNat - bin.toNat) % (2 ^ w : Nat) = a.toNat - b.toNat - bin.toNat + (2 ^ w : Nat) := by
      rw [← Int.add_emod_right, Int.emod_eq_of_lt] <;> omega
    rw [this]
    simp only [h, decide_true, Bool.toNat_true]
    clear this
    generalize 2 ^ w = m at *
    omega
  · rw [Int.emod_eq_of_lt (by omega) (by omega)]
    simp [h]; omega

end Sys2Proof.Machine
end

