-- ==== Sys2Proof/Laws/PerInstr.lean ====
section
/-! SUPPORT. Statements about every instruction, one lemma per constructor. -/
namespace Sys2Proof.Laws

/-- An instruction's encoding has as many bytes as its format (R110). -/
def EncodedLength.Statement (i : Instr) : Prop :=
  ∀ cfg bytes, encode cfg i = some bytes → bytes.length = i.length

/-- A list put behind `some` is the list. -/
theorem length_of_some {l bytes : List Byte} {n : Nat} (hn : l.length = n) (h : some l = some bytes) :
    bytes.length = n := by
  injection h with h; rw [← h]; exact hn

/-- The same for an opcode byte given by a parameter (R146). -/
theorem length_of_map {e : Option Byte} {g : Byte → List Byte} {bytes : List Byte} {n : Nat}
    (hn : ∀ op, (g op).length = n) (h : e.map g = some bytes) : bytes.length = n := by
  cases e with
  | none => exact absurd h (by simp)
  | some op => exact length_of_some (hn op) h

theorem EncodedLength.nop : EncodedLength.Statement .nop := fun _ _ => length_of_some rfl
theorem EncodedLength.hlt : EncodedLength.Statement .hlt := fun _ _ => length_of_some rfl
theorem EncodedLength.sfi : EncodedLength.Statement .sfi := fun _ _ => length_of_some rfl
theorem EncodedLength.cfi : EncodedLength.Statement .cfi := fun _ _ => length_of_some rfl
theorem EncodedLength.sft : EncodedLength.Statement .sft := fun _ _ => length_of_some rfl
theorem EncodedLength.cft : EncodedLength.Statement .cft := fun _ _ => length_of_some rfl
theorem EncodedLength.exr : EncodedLength.Statement .exr := fun _ _ => length_of_some rfl
theorem EncodedLength.swh : EncodedLength.Statement .swh := fun _ _ => length_of_some rfl
theorem EncodedLength.swl : EncodedLength.Statement .swl := fun _ _ => length_of_some rfl
theorem EncodedLength.swb : EncodedLength.Statement .swb := fun _ _ => length_of_some rfl
theorem EncodedLength.swc : EncodedLength.Statement .swc := fun _ _ => length_of_some rfl
theorem EncodedLength.swd : EncodedLength.Statement .swd := fun _ _ => length_of_some rfl
theorem EncodedLength.swe : EncodedLength.Statement .swe := fun _ _ => length_of_some rfl
theorem EncodedLength.swm : EncodedLength.Statement .swm := fun _ _ => length_of_some rfl
theorem EncodedLength.lda (k : Word) : EncodedLength.Statement (.lda k) := fun _ _ => length_of_some rfl
theorem EncodedLength.sta (k : Word) : EncodedLength.Statement (.sta k) := fun _ _ => length_of_some rfl
theorem EncodedLength.tri (k : Byte) : EncodedLength.Statement (.tri k) := fun _ _ => length_of_some rfl
theorem EncodedLength.tha : EncodedLength.Statement .tha := fun _ _ => length_of_some rfl
theorem EncodedLength.tla : EncodedLength.Statement .tla := fun _ _ => length_of_some rfl
theorem EncodedLength.tba : EncodedLength.Statement .tba := fun _ _ => length_of_some rfl
theorem EncodedLength.tca : EncodedLength.Statement .tca := fun _ _ => length_of_some rfl
theorem EncodedLength.tda : EncodedLength.Statement .tda := fun _ _ => length_of_some rfl
theorem EncodedLength.tea : EncodedLength.Statement .tea := fun _ _ => length_of_some rfl
theorem EncodedLength.tma : EncodedLength.Statement .tma := fun _ _ => length_of_some rfl
theorem EncodedLength.tah : EncodedLength.Statement .tah := fun _ _ => length_of_some rfl
theorem EncodedLength.tal : EncodedLength.Statement .tal := fun _ _ => length_of_some rfl
theorem EncodedLength.tab : EncodedLength.Statement .tab := fun _ _ => length_of_some rfl
theorem EncodedLength.tac : EncodedLength.Statement .tac := fun _ _ => length_of_some rfl
theorem EncodedLength.tad : EncodedLength.Statement .tad := fun _ _ => length_of_some rfl
theorem EncodedLength.tae : EncodedLength.Statement .tae := fun _ _ => length_of_some rfl
theorem EncodedLength.tam : EncodedLength.Statement .tam := fun _ _ => length_of_some rfl
theorem EncodedLength.pla : EncodedLength.Statement .pla := fun _ _ => length_of_some rfl
theorem EncodedLength.plh : EncodedLength.Statement .plh := fun _ _ => length_of_some rfl
theorem EncodedLength.pll : EncodedLength.Statement .pll := fun _ _ => length_of_some rfl
theorem EncodedLength.plb : EncodedLength.Statement .plb := fun _ _ => length_of_some rfl
theorem EncodedLength.plc : EncodedLength.Statement .plc := fun _ _ => length_of_some rfl
theorem EncodedLength.pld : EncodedLength.Statement .pld := fun _ _ => length_of_some rfl
theorem EncodedLength.ple : EncodedLength.Statement .ple := fun _ _ => length_of_some rfl
theorem EncodedLength.plm : EncodedLength.Statement .plm := fun _ _ => length_of_some rfl
theorem EncodedLength.pha : EncodedLength.Statement .pha := fun _ _ => length_of_some rfl
theorem EncodedLength.phh : EncodedLength.Statement .phh := fun _ _ => length_of_some rfl
theorem EncodedLength.phl : EncodedLength.Statement .phl := fun _ _ => length_of_some rfl
theorem EncodedLength.phb : EncodedLength.Statement .phb := fun _ _ => length_of_some rfl
theorem EncodedLength.phc : EncodedLength.Statement .phc := fun _ _ => length_of_some rfl
theorem EncodedLength.phd : EncodedLength.Statement .phd := fun _ _ => length_of_some rfl
theorem EncodedLength.phe : EncodedLength.Statement .phe := fun _ _ => length_of_some rfl
theorem EncodedLength.phm : EncodedLength.Statement .phm := fun _ _ => length_of_some rfl
theorem EncodedLength.lrK (r : Reg16) (k : Word) : EncodedLength.Statement (.lrK r k) := fun _ _ => length_of_some rfl
theorem EncodedLength.srK (r : Reg16) (k : Word) : EncodedLength.Statement (.srK r k) := fun _ _ => length_of_some rfl
theorem EncodedLength.pshR (r : Reg16) : EncodedLength.Statement (.pshR r) := fun _ _ => length_of_some rfl
theorem EncodedLength.pulR (r : Reg16) : EncodedLength.Statement (.pulR r) := fun _ _ => length_of_some rfl
theorem EncodedLength.lfk (r : FReg) (k : Word) : EncodedLength.Statement (.lfk r k) := fun _ _ => length_of_some rfl
theorem EncodedLength.sfk (r : FReg) (k : Word) : EncodedLength.Statement (.sfk r k) := fun _ _ => length_of_some rfl
theorem EncodedLength.pshF (r : FReg) : EncodedLength.Statement (.pshF r) := fun _ _ => length_of_some rfl
theorem EncodedLength.pulF (r : FReg) : EncodedLength.Statement (.pulF r) := fun _ _ => length_of_some rfl
theorem EncodedLength.tRR (rd : Reg16) (rs : Reg16) : EncodedLength.Statement (.tRR rd rs) := fun _ _ => length_of_some rfl
theorem EncodedLength.trR (rd : Reg16) (rs : Reg8) : EncodedLength.Statement (.trR rd rs) := fun _ _ => length_of_some rfl
theorem EncodedLength.tRr (rd : Reg8) (rs : Reg16) : EncodedLength.Statement (.tRr rd rs) := fun _ _ => length_of_some rfl
theorem EncodedLength.tFF (rd : FReg) (rs : FReg) : EncodedLength.Statement (.tFF rd rs) := fun _ _ => length_of_some rfl
theorem EncodedLength.tRF (rd : FReg) (rs : Reg16) : EncodedLength.Statement (.tRF rd rs) := fun _ _ => length_of_some rfl
theorem EncodedLength.tFR (rd : Reg16) (rs : FReg) : EncodedLength.Statement (.tFR rd rs) := fun _ _ => length_of_some rfl
theorem EncodedLength.trF (rd : FReg) (rs : Reg8) : EncodedLength.Statement (.trF rd rs) := fun _ _ => length_of_some rfl
theorem EncodedLength.tFr (rd : Reg8) (rs : FReg) : EncodedLength.Statement (.tFr rd rs) := fun _ _ => length_of_some rfl
theorem EncodedLength.swpRr (rd : Reg16) (rs : Reg16) : EncodedLength.Statement (.swpRr rd rs) := fun _ _ => length_of_some rfl
theorem EncodedLength.swpFf (rd : FReg) (rs : FReg) : EncodedLength.Statement (.swpFf rd rs) := fun _ _ => length_of_some rfl
theorem EncodedLength.jsc (k : Word) : EncodedLength.Statement (.jsc k) := fun _ _ => length_of_some rfl
theorem EncodedLength.jzc (k : Word) : EncodedLength.Statement (.jzc k) := fun _ _ => length_of_some rfl
theorem EncodedLength.jvc (k : Word) : EncodedLength.Statement (.jvc k) := fun _ _ => length_of_some rfl
theorem EncodedLength.jic (k : Word) : EncodedLength.Statement (.jic k) := fun _ _ => length_of_some rfl
theorem EncodedLength.jtc (k : Word) : EncodedLength.Statement (.jtc k) := fun _ _ => length_of_some rfl
theorem EncodedLength.jpc (k : Word) : EncodedLength.Statement (.jpc k) := fun _ _ => length_of_some rfl
theorem EncodedLength.jhc (k : Word) : EncodedLength.Statement (.jhc k) := fun _ _ => length_of_some rfl
theorem EncodedLength.jcc (k : Word) : EncodedLength.Statement (.jcc k) := fun _ _ => length_of_some rfl
theorem EncodedLength.jss (k : Word) : EncodedLength.Statement (.jss k) := fun _ _ => length_of_some rfl
theorem EncodedLength.jzs (k : Word) : EncodedLength.Statement (.jzs k) := fun _ _ => length_of_some rfl
theorem EncodedLength.jvs (k : Word) : EncodedLength.Statement (.jvs k) := fun _ _ => length_of_some rfl
theorem EncodedLength.jis (k : Word) : EncodedLength.Statement (.jis k) := fun _ _ => length_of_some rfl
theorem EncodedLength.jts (k : Word) : EncodedLength.Statement (.jts k) := fun _ _ => length_of_some rfl
theorem EncodedLength.jps (k : Word) : EncodedLength.Statement (.jps k) := fun _ _ => length_of_some rfl
theorem EncodedLength.jhs (k : Word) : EncodedLength.Statement (.jhs k) := fun _ _ => length_of_some rfl
theorem EncodedLength.jcs (k : Word) : EncodedLength.Statement (.jcs k) := fun _ _ => length_of_some rfl
theorem EncodedLength.jmp (k : Word) : EncodedLength.Statement (.jmp k) := fun _ _ => length_of_some rfl
theorem EncodedLength.jmm : EncodedLength.Statement .jmm := fun _ _ => length_of_some rfl
theorem EncodedLength.jne (k : Word) : EncodedLength.Statement (.jne k) := fun _ _ => length_of_some rfl
theorem EncodedLength.jeq (k : Word) : EncodedLength.Statement (.jeq k) := fun _ _ => length_of_some rfl
theorem EncodedLength.jlt (k : Word) : EncodedLength.Statement (.jlt k) := fun _ _ => length_of_some rfl
theorem EncodedLength.jle (k : Word) : EncodedLength.Statement (.jle k) := fun _ _ => length_of_some rfl
theorem EncodedLength.jgt (k : Word) : EncodedLength.Statement (.jgt k) := fun _ _ => length_of_some rfl
theorem EncodedLength.jge (k : Word) : EncodedLength.Statement (.jge k) := fun _ _ => length_of_some rfl
theorem EncodedLength.jsr (k : Word) : EncodedLength.Statement (.jsr k) := fun _ _ => length_of_some rfl
theorem EncodedLength.jsm : EncodedLength.Statement .jsm := fun _ _ => length_of_some rfl
theorem EncodedLength.ret : EncodedLength.Statement .ret := fun _ _ => length_of_some rfl
theorem EncodedLength.rfi : EncodedLength.Statement .rfi := fun _ _ => length_of_some rfl
theorem EncodedLength.irq : EncodedLength.Statement .irq := fun _ _ => length_of_some rfl
theorem EncodedLength.nmi : EncodedLength.Statement .nmi := fun _ _ => length_of_some rfl
theorem EncodedLength.wfi : EncodedLength.Statement .wfi := fun _ _ => length_of_some rfl
theorem EncodedLength.adi (k : Byte) : EncodedLength.Statement (.adi k) := fun _ _ => length_of_some rfl
theorem EncodedLength.adh : EncodedLength.Statement .adh := fun _ _ => length_of_some rfl
theorem EncodedLength.adl : EncodedLength.Statement .adl := fun _ _ => length_of_some rfl
theorem EncodedLength.adb : EncodedLength.Statement .adb := fun _ _ => length_of_some rfl
theorem EncodedLength.adc : EncodedLength.Statement .adc := fun _ _ => length_of_some rfl
theorem EncodedLength.add : EncodedLength.Statement .add := fun _ _ => length_of_some rfl
theorem EncodedLength.ade : EncodedLength.Statement .ade := fun _ _ => length_of_some rfl
theorem EncodedLength.adm : EncodedLength.Statement .adm := fun _ _ => length_of_some rfl
theorem EncodedLength.aci (k : Byte) : EncodedLength.Statement (.aci k) := fun _ _ => length_of_some rfl
theorem EncodedLength.ach : EncodedLength.Statement .ach := fun _ _ => length_of_some rfl
theorem EncodedLength.acl : EncodedLength.Statement .acl := fun _ _ => length_of_some rfl
theorem EncodedLength.acb : EncodedLength.Statement .acb := fun _ _ => length_of_some rfl
theorem EncodedLength.acc : EncodedLength.Statement .acc := fun _ _ => length_of_some rfl
theorem EncodedLength.acd : EncodedLength.Statement .acd := fun _ _ => length_of_some rfl
theorem EncodedLength.ace : EncodedLength.Statement .ace := fun _ _ => length_of_some rfl
theorem EncodedLength.acm : EncodedLength.Statement .acm := fun _ _ => length_of_some rfl
theorem EncodedLength.sui (k : Byte) : EncodedLength.Statement (.sui k) := fun _ _ => length_of_some rfl
theorem EncodedLength.suh : EncodedLength.Statement .suh := fun _ _ => length_of_some rfl
theorem EncodedLength.sul : EncodedLength.Statement .sul := fun _ _ => length_of_some rfl
theorem EncodedLength.sub : EncodedLength.Statement .sub := fun _ _ => length_of_some rfl
theorem EncodedLength.suc : EncodedLength.Statement .suc := fun _ _ => length_of_some rfl
theorem EncodedLength.sud : EncodedLength.Statement .sud := fun _ _ => length_of_some rfl
theorem EncodedLength.sue : EncodedLength.Statement .sue := fun _ _ => length_of_some rfl
theorem EncodedLength.sum : EncodedLength.Statement .sum := fun _ _ => length_of_some rfl
theorem EncodedLength.sci (k : Byte) : EncodedLength.Statement (.sci k) := fun _ _ => length_of_some rfl
theorem EncodedLength.sch : EncodedLength.Statement .sch := fun _ _ => length_of_some rfl
theorem EncodedLength.scl : EncodedLength.Statement .scl := fun _ _ => length_of_some rfl
theorem EncodedLength.scb : EncodedLength.Statement .scb := fun _ _ => length_of_some rfl
theorem EncodedLength.scc : EncodedLength.Statement .scc := fun _ _ => length_of_some rfl
theorem EncodedLength.scd : EncodedLength.Statement .scd := fun _ _ => length_of_some rfl
theorem EncodedLength.sce : EncodedLength.Statement .sce := fun _ _ => length_of_some rfl
theorem EncodedLength.scm : EncodedLength.Statement .scm := fun _ _ => length_of_some rfl
theorem EncodedLength.cpi (k : Byte) : EncodedLength.Statement (.cpi k) := fun _ _ => length_of_some rfl
theorem EncodedLength.cph : EncodedLength.Statement .cph := fun _ _ => length_of_some rfl
theorem EncodedLength.cpl : EncodedLength.Statement .cpl := fun _ _ => length_of_some rfl
theorem EncodedLength.cpb : EncodedLength.Statement .cpb := fun _ _ => length_of_some rfl
theorem EncodedLength.cpc : EncodedLength.Statement .cpc := fun _ _ => length_of_some rfl
theorem EncodedLength.cpd : EncodedLength.Statement .cpd := fun _ _ => length_of_some rfl
theorem EncodedLength.cpe : EncodedLength.Statement .cpe := fun _ _ => length_of_some rfl
theorem EncodedLength.cpm : EncodedLength.Statement .cpm := fun _ _ => length_of_some rfl
theorem EncodedLength.ani (k : Byte) : EncodedLength.Statement (.ani k) := fun _ _ => length_of_some rfl
theorem EncodedLength.anh : EncodedLength.Statement .anh := fun _ _ => length_of_some rfl
theorem EncodedLength.anl : EncodedLength.Statement .anl := fun _ _ => length_of_some rfl
theorem EncodedLength.anb : EncodedLength.Statement .anb := fun _ _ => length_of_some rfl
theorem EncodedLength.anc : EncodedLength.Statement .anc := fun _ _ => length_of_some rfl
theorem EncodedLength.and : EncodedLength.Statement .and := fun _ _ => length_of_some rfl
theorem EncodedLength.ane : EncodedLength.Statement .ane := fun _ _ => length_of_some rfl
theorem EncodedLength.anm : EncodedLength.Statement .anm := fun _ _ => length_of_some rfl
theorem EncodedLength.ori (k : Byte) : EncodedLength.Statement (.ori k) := fun _ _ => length_of_some rfl
theorem EncodedLength.orh : EncodedLength.Statement .orh := fun _ _ => length_of_some rfl
theorem EncodedLength.orl : EncodedLength.Statement .orl := fun _ _ => length_of_some rfl
theorem EncodedLength.orb : EncodedLength.Statement .orb := fun _ _ => length_of_some rfl
theorem EncodedLength.orc : EncodedLength.Statement .orc := fun _ _ => length_of_some rfl
theorem EncodedLength.ord : EncodedLength.Statement .ord := fun _ _ => length_of_some rfl
theorem EncodedLength.ore : EncodedLength.Statement .ore := fun _ _ => length_of_some rfl
theorem EncodedLength.orm : EncodedLength.Statement .orm := fun _ _ => length_of_some rfl
theorem EncodedLength.xri (k : Byte) : EncodedLength.Statement (.xri k) := fun _ _ => length_of_some rfl
theorem EncodedLength.xrh : EncodedLength.Statement .xrh := fun _ _ => length_of_some rfl
theorem EncodedLength.xrl : EncodedLength.Statement .xrl := fun _ _ => length_of_some rfl
theorem EncodedLength.xrb : EncodedLength.Statement .xrb := fun _ _ => length_of_some rfl
theorem EncodedLength.xrc : EncodedLength.Statement .xrc := fun _ _ => length_of_some rfl
theorem EncodedLength.xrd : EncodedLength.Statement .xrd := fun _ _ => length_of_some rfl
theorem EncodedLength.xre : EncodedLength.Statement .xre := fun _ _ => length_of_some rfl
theorem EncodedLength.xrm : EncodedLength.Statement .xrm := fun _ _ => length_of_some rfl
theorem EncodedLength.asl : EncodedLength.Statement .asl := fun _ _ => length_of_some rfl
theorem EncodedLength.asr : EncodedLength.Statement .asr := fun _ _ => length_of_some rfl
theorem EncodedLength.rol : EncodedLength.Statement .rol := fun _ _ => length_of_some rfl
theorem EncodedLength.ror : EncodedLength.Statement .ror := fun _ _ => length_of_some rfl
theorem EncodedLength.com : EncodedLength.Statement .com := fun _ _ => length_of_some rfl
theorem EncodedLength.neg : EncodedLength.Statement .neg := fun _ _ => length_of_some rfl
theorem EncodedLength.addRr (rd : Reg16) (rs : Reg16) : EncodedLength.Statement (.addRr rd rs) := fun _ _ => length_of_some rfl
theorem EncodedLength.adcRr (rd : Reg16) (rs : Reg16) : EncodedLength.Statement (.adcRr rd rs) := fun _ _ => length_of_some rfl
theorem EncodedLength.subRr (rd : Reg16) (rs : Reg16) : EncodedLength.Statement (.subRr rd rs) := fun _ _ => length_of_some rfl
theorem EncodedLength.sbcRr (rd : Reg16) (rs : Reg16) : EncodedLength.Statement (.sbcRr rd rs) := fun _ _ => length_of_some rfl
theorem EncodedLength.cmpRr (rd : Reg16) (rs : Reg16) : EncodedLength.Statement (.cmpRr rd rs) := fun _ _ => length_of_some rfl
theorem EncodedLength.andRr (rd : Reg16) (rs : Reg16) : EncodedLength.Statement (.andRr rd rs) := fun _ _ => length_of_some rfl
theorem EncodedLength.orrRr (rd : Reg16) (rs : Reg16) : EncodedLength.Statement (.orrRr rd rs) := fun _ _ => length_of_some rfl
theorem EncodedLength.xorRr (rd : Reg16) (rs : Reg16) : EncodedLength.Statement (.xorRr rd rs) := fun _ _ => length_of_some rfl
theorem EncodedLength.aslR (r : Reg16) : EncodedLength.Statement (.aslR r) := fun _ _ => length_of_some rfl
theorem EncodedLength.asrR (r : Reg16) : EncodedLength.Statement (.asrR r) := fun _ _ => length_of_some rfl
theorem EncodedLength.rolR (r : Reg16) : EncodedLength.Statement (.rolR r) := fun _ _ => length_of_some rfl
theorem EncodedLength.rorR (r : Reg16) : EncodedLength.Statement (.rorR r) := fun _ _ => length_of_some rfl
theorem EncodedLength.comR (r : Reg16) : EncodedLength.Statement (.comR r) := fun _ _ => length_of_some rfl
theorem EncodedLength.negR (r : Reg16) : EncodedLength.Statement (.negR r) := fun _ _ => length_of_some rfl
theorem EncodedLength.addRk (r : Reg16) (k : Word) : EncodedLength.Statement (.addRk r k) := fun _ _ => length_of_some rfl
theorem EncodedLength.adcRk (r : Reg16) (k : Word) : EncodedLength.Statement (.adcRk r k) := fun _ _ => length_of_some rfl
theorem EncodedLength.subRk (r : Reg16) (k : Word) : EncodedLength.Statement (.subRk r k) := fun _ _ => length_of_some rfl
theorem EncodedLength.sbcRk (r : Reg16) (k : Word) : EncodedLength.Statement (.sbcRk r k) := fun _ _ => length_of_some rfl
theorem EncodedLength.cmpRk (r : Reg16) (k : Word) : EncodedLength.Statement (.cmpRk r k) := fun _ _ => length_of_some rfl
theorem EncodedLength.andRk (r : Reg16) (k : Word) : EncodedLength.Statement (.andRk r k) := fun _ _ => length_of_some rfl
theorem EncodedLength.orrRk (r : Reg16) (k : Word) : EncodedLength.Statement (.orrRk r k) := fun _ _ => length_of_some rfl
theorem EncodedLength.xorRk (r : Reg16) (k : Word) : EncodedLength.Statement (.xorRk r k) := fun _ _ => length_of_some rfl
theorem EncodedLength.mulRr (rd : Reg16) (rs : Reg16) : EncodedLength.Statement (.mulRr rd rs) := fun _ _ => length_of_some rfl
theorem EncodedLength.muk (r : Reg16) (k : Word) : EncodedLength.Statement (.muk r k) := fun _ _ => length_of_some rfl
theorem EncodedLength.divRr (rd : Reg16) (rs : Reg16) : EncodedLength.Statement (.divRr rd rs) := fun _ _ => length_of_some rfl
theorem EncodedLength.dik (r : Reg16) (k : Word) : EncodedLength.Statement (.dik r k) := fun _ _ => length_of_some rfl
theorem EncodedLength.modRr (rd : Reg16) (rs : Reg16) : EncodedLength.Statement (.modRr rd rs) := fun _ _ => length_of_some rfl
theorem EncodedLength.mok (r : Reg16) (k : Word) : EncodedLength.Statement (.mok r k) := fun _ _ => length_of_some rfl
theorem EncodedLength.addFf (rd : FReg) (rs : FReg) : EncodedLength.Statement (.addFf rd rs) := fun _ _ => length_of_some rfl
theorem EncodedLength.mulFf (rd : FReg) (rs : FReg) : EncodedLength.Statement (.mulFf rd rs) := fun _ _ => length_of_some rfl
theorem EncodedLength.subFf (rd : FReg) (rs : FReg) : EncodedLength.Statement (.subFf rd rs) := fun _ _ => length_of_some rfl
theorem EncodedLength.divFf (rd : FReg) (rs : FReg) : EncodedLength.Statement (.divFf rd rs) := fun _ _ => length_of_some rfl
theorem EncodedLength.cmpFf (rd : FReg) (rs : FReg) : EncodedLength.Statement (.cmpFf rd rs) := fun _ _ => length_of_some rfl
theorem EncodedLength.modFf (rd : FReg) (rs : FReg) : EncodedLength.Statement (.modFf rd rs) := fun _ _ => length_of_some rfl
theorem EncodedLength.inv (r : FReg) : EncodedLength.Statement (.inv r) := fun _ _ => length_of_some rfl
theorem EncodedLength.srt (r : FReg) : EncodedLength.Statement (.srt r) := fun _ _ => length_of_some rfl
theorem EncodedLength.irt (r : FReg) : EncodedLength.Statement (.irt r) := fun _ _ => length_of_some rfl
theorem EncodedLength.sin (r : FReg) : EncodedLength.Statement (.sin r) := fun _ _ => length_of_some rfl
theorem EncodedLength.cos (r : FReg) : EncodedLength.Statement (.cos r) := fun _ _ => length_of_some rfl
theorem EncodedLength.tan (r : FReg) : EncodedLength.Statement (.tan r) := fun _ _ => length_of_some rfl
theorem EncodedLength.abs (r : FReg) : EncodedLength.Statement (.abs r) := fun _ _ => length_of_some rfl
theorem EncodedLength.negF (r : FReg) : EncodedLength.Statement (.negF r) := fun _ _ => length_of_some rfl
theorem EncodedLength.addFk (r : FReg) (k : Word) : EncodedLength.Statement (.addFk r k) := fun _ _ => length_of_some rfl
theorem EncodedLength.mulFk (r : FReg) (k : Word) : EncodedLength.Statement (.mulFk r k) := fun _ _ => length_of_some rfl
theorem EncodedLength.subFk (r : FReg) (k : Word) : EncodedLength.Statement (.subFk r k) := fun _ _ => length_of_some rfl
theorem EncodedLength.divFk (r : FReg) (k : Word) : EncodedLength.Statement (.divFk r k) := fun _ _ => length_of_some rfl
theorem EncodedLength.cmpFk (r : FReg) (k : Word) : EncodedLength.Statement (.cmpFk r k) := fun _ _ => length_of_some rfl
theorem EncodedLength.modFk (r : FReg) (k : Word) : EncodedLength.Statement (.modFk r k) := fun _ _ => length_of_some rfl
theorem EncodedLength.powFf (rd : FReg) (rs : FReg) : EncodedLength.Statement (.powFf rd rs) := fun _ _ => length_of_some rfl
theorem EncodedLength.trp : EncodedLength.Statement .trp := fun _ _ => length_of_some rfl
theorem EncodedLength.tpc : EncodedLength.Statement .tpc := fun _ _ => length_of_map fun _ => rfl
theorem EncodedLength.exf : EncodedLength.Statement .exf := fun _ _ => length_of_map fun _ => rfl
theorem EncodedLength.stmMr (r : Reg16) : EncodedLength.Statement (.stmMr r) := fun _ _ => length_of_map fun _ => rfl
theorem EncodedLength.ldmRm (r : Reg16) : EncodedLength.Statement (.ldmRm r) := fun _ _ => length_of_map fun _ => rfl
theorem EncodedLength.traRk (r : Reg16) (k : Word) : EncodedLength.Statement (.traRk r k) := fun _ _ => length_of_map fun _ => rfl
theorem EncodedLength.traFk (r : FReg) (k : Word) : EncodedLength.Statement (.traFk r k) := fun _ _ => length_of_map fun _ => rfl
theorem EncodedLength.swpFk (r : FReg) (k : Word) : EncodedLength.Statement (.swpFk r k) := fun _ _ => length_of_map fun _ => rfl
theorem EncodedLength.bds : EncodedLength.Statement .bds := fun _ _ h => absurd h (by simp [encode])

end Sys2Proof.Laws
end

