-- ==== Sys2Proof/Laws/Regs.lean ====
section
/-! SUPPORT. The register files: a read after a write, and the exchange of EXR. -/
namespace Sys2Proof.Machine

theorem Regs.get_set (x : Regs) (r q : Reg16) (v : Word) :
    (x.set r v).get q = if q = r then v else x.get q := by
  cases r <;> cases q <;> rfl

@[simp] theorem Regs.get_set_same (x : Regs) (r : Reg16) (v : Word) : (x.set r v).get r = v := by
  cases r <;> rfl

@[simp] theorem Regs.set_get (x : Regs) (r : Reg16) : x.set r (x.get r) = x := by
  cases r <;> rfl

theorem FRegs.get_set (f : FRegs) (r q : FReg) (v : Word) :
    (f.set r v).get q = if q = r then v else f.get q := by
  cases r <;> cases q <;> rfl

@[simp] theorem FRegs.get_set_same (f : FRegs) (r : FReg) (v : Word) : (f.set r v).get r = v := by
  cases r <;> rfl

/-- Two register files agree when every register does. -/
theorem Regs.ext_get {x y : Regs} (h : ∀ r, x.get r = y.get r) : x = y := by
  cases x; cases y
  have := h .r0; have := h .r1; have := h .r2; have := h .r3
  have := h .r4; have := h .r5; have := h .r6; have := h .r7
  simp_all [Regs.get]

/-- One register of an exchanged file (R420). -/
theorem Regs.get_exchanged (v : Variant) (x y : Regs) (r : Reg16) :
    (Regs.exchanged v x y).get r = if Reg16.present v r then y.get r else x.get r := by
  cases r <;> rfl

/-- Exchanging both files twice restores them. -/
theorem Regs.exchanged_exchanged (v : Variant) (x y : Regs) :
    Regs.exchanged v (Regs.exchanged v x y) (Regs.exchanged v y x) = x := by
  apply Regs.ext_get
  intro r
  simp only [Regs.get_exchanged]
  split <;> rfl

end Sys2Proof.Machine
end

