-- ==== Sys2Proof/Tests/Slice0.lean ====
section
/-! SUPPORT. The author's own tests: WellFormed's checks refuse, every constructor's word (written out from R131 with
the codes of R120 to R123) decodes, single steps from the rows of spec/95_test_vectors.md, and for every statement with
hypotheses a state and operands that meet them. -/
namespace Sys2Proof.Tests

open Machine Claims

set_option maxRecDepth 8000

/-! ## WellFormed -/

/-- Every `ENC_` parameter supplied: seven of the forty bytes R140 leaves undefined. -/
def supplied : Config :=
  { Config.reference with
    encTpc := some 0x06, encExf := some 0x07, encStmm := some 0x28, encLdmm := some 0x52, encTrk := some 0x53,
    encTfk := some 0x54, encSwfk := some 0x55 }

/-- The variant is too small: a register, a 16-bit and a float instruction, one variant below their first (R145). -/
theorem test_ill_formed_variant :
    Instr.wellFormed { Config.reference with variant := .v8042 } .adb = false ∧
    Instr.wellFormed { Config.reference with variant := .v8842 } (.tRR .r0 .r0) = false ∧
    Instr.wellFormed { supplied with variant := .v80142 } .exf = false := by decide

/-- No `ENC_` byte is supplied (R146). -/
theorem test_ill_formed_no_encoding :
    Instr.wellFormed Config.reference .tpc = false ∧ Instr.wellFormed Config.reference (.traRk .r3 1) = false ∧
    Instr.wellFormed Config.reference (.swpFk .f3 1) = false := by decide

/-- BDS is never well formed (R322). -/
theorem test_ill_formed_bds : Instr.wellFormed supplied .bds = false := by decide

/-- Two instructions on one byte, and a byte the map has given away (R125). -/
theorem test_encodings_collide :
    encodingsDistinct { supplied with encExf := some 0x06 } = false ∧
    encodingsDistinct { supplied with encExf := some 0x08 } = false ∧ encodingsDistinct supplied = true := by decide

/-! ## Decoding -/

/-- Each byte string decodes to its instruction with nothing left over. -/
abbrev Reads (cfg : Config) (l : List (List Byte × Instr)) : Prop := ∀ p ∈ l, decode cfg p.1 = .ok (p.2, [])

theorem test_decode_x : Reads Config.reference
    [([0x00], .nop), ([0x01], .hlt), ([0x02], .sfi), ([0x03], .cfi), ([0x04], .sft), ([0x05], .cft),
     ([0x08], .exr), ([0x71], .jmm), ([0x79], .jsm), ([0x7B], .ret), ([0x7C], .rfi), ([0x7D], .irq),
     ([0x7E], .nmi), ([0x7F], .wfi), ([0xC0], .asl), ([0xC1], .asr), ([0xC2], .rol), ([0xC3], .ror),
     ([0xC4], .com), ([0xC5], .neg), ([0xFF], .trp)] := by decide

theorem test_decode_r8_1 : Reads Config.reference
    [([0x09], .swh), ([0x0A], .swl), ([0x0B], .swb), ([0x0C], .swc), ([0x0D], .swd), ([0x0E], .swe),
     ([0x0F], .swm), ([0x21], .tha), ([0x22], .tla), ([0x23], .tba), ([0x24], .tca), ([0x25], .tda),
     ([0x26], .tea), ([0x27], .tma), ([0x29], .tah), ([0x2A], .tal), ([0x2B], .tab), ([0x2C], .tac),
     ([0x2D], .tad), ([0x2E], .tae), ([0x2F], .tam), ([0x30], .pla), ([0x31], .plh), ([0x32], .pll),
     ([0x33], .plb), ([0x34], .plc), ([0x35], .pld), ([0x36], .ple)] := by decide

theorem test_decode_r8_2 : Reads Config.reference
    [([0x37], .plm), ([0x38], .pha), ([0x39], .phh), ([0x3A], .phl), ([0x3B], .phb), ([0x3C], .phc),
     ([0x3D], .phd), ([0x3E], .phe), ([0x3F], .phm), ([0x81], .adh), ([0x82], .adl), ([0x83], .adb),
     ([0x84], .adc), ([0x85], .add), ([0x86], .ade), ([0x87], .adm), ([0x89], .ach), ([0x8A], .acl),
     ([0x8B], .acb), ([0x8C], .acc), ([0x8D], .acd), ([0x8E], .ace), ([0x8F], .acm), ([0x91], .suh),
     ([0x92], .sul), ([0x93], .sub), ([0x94], .suc), ([0x95], .sud)] := by decide

theorem test_decode_r8_3 : Reads Config.reference
    [([0x96], .sue), ([0x97], .sum), ([0x99], .sch), ([0x9A], .scl), ([0x9B], .scb), ([0x9C], .scc),
     ([0x9D], .scd), ([0x9E], .sce), ([0x9F], .scm), ([0xA1], .cph), ([0xA2], .cpl), ([0xA3], .cpb),
     ([0xA4], .cpc), ([0xA5], .cpd), ([0xA6], .cpe), ([0xA7], .cpm), ([0xA9], .anh), ([0xAA], .anl),
     ([0xAB], .anb), ([0xAC], .anc), ([0xAD], .and), ([0xAE], .ane), ([0xAF], .anm), ([0xB1], .orh),
     ([0xB2], .orl), ([0xB3], .orb), ([0xB4], .orc), ([0xB5], .ord)] := by decide

theorem test_decode_r8_4 : Reads Config.reference
    [([0xB6], .ore), ([0xB7], .orm), ([0xB9], .xrh), ([0xBA], .xrl), ([0xBB], .xrb), ([0xBC], .xrc),
     ([0xBD], .xrd), ([0xBE], .xre), ([0xBF], .xrm)] := by decide

theorem test_decode_k16 : Reads Config.reference
    [([0x10, 0x12, 0x34], .lda 0x1234), ([0x18, 0x12, 0x34], .sta 0x1234), ([0x60, 0x12, 0x34], .jsc 0x1234),
     ([0x61, 0x12, 0x34], .jzc 0x1234), ([0x62, 0x12, 0x34], .jvc 0x1234), ([0x63, 0x12, 0x34], .jic 0x1234),
     ([0x64, 0x12, 0x34], .jtc 0x1234), ([0x65, 0x12, 0x34], .jpc 0x1234), ([0x66, 0x12, 0x34], .jhc 0x1234),
     ([0x67, 0x12, 0x34], .jcc 0x1234), ([0x68, 0x12, 0x34], .jss 0x1234), ([0x69, 0x12, 0x34], .jzs 0x1234),
     ([0x6A, 0x12, 0x34], .jvs 0x1234), ([0x6B, 0x12, 0x34], .jis 0x1234), ([0x6C, 0x12, 0x34], .jts 0x1234),
     ([0x6D, 0x12, 0x34], .jps 0x1234), ([0x6E, 0x12, 0x34], .jhs 0x1234), ([0x6F, 0x12, 0x34], .jcs 0x1234),
     ([0x70, 0x12, 0x34], .jmp 0x1234), ([0x72, 0x12, 0x34], .jne 0x1234), ([0x73, 0x12, 0x34], .jeq 0x1234),
     ([0x74, 0x12, 0x34], .jlt 0x1234), ([0x75, 0x12, 0x34], .jle 0x1234), ([0x76, 0x12, 0x34], .jgt 0x1234),
     ([0x77, 0x12, 0x34], .jge 0x1234), ([0x78, 0x12, 0x34], .jsr 0x1234)] := by decide

theorem test_decode_k8 : Reads Config.reference
    [([0x20, 0xC6], .tri 0xC6), ([0x80, 0xC6], .adi 0xC6), ([0x88, 0xC6], .aci 0xC6), ([0x90, 0xC6], .sui 0xC6),
     ([0x98, 0xC6], .sci 0xC6), ([0xA0, 0xC6], .cpi 0xC6), ([0xA8, 0xC6], .ani 0xC6), ([0xB0, 0xC6], .ori 0xC6),
     ([0xB8, 0xC6], .xri 0xC6)] := by decide

theorem test_decode_16rk : Reads Config.reference
    [([0x40, 0x06, 0x12, 0x34], .lrK .r6 0x1234), ([0x41, 0x06, 0x12, 0x34], .srK .r6 0x1234),
     ([0xD8, 0x06, 0x12, 0x34], .addRk .r6 0x1234), ([0xD9, 0x06, 0x12, 0x34], .adcRk .r6 0x1234),
     ([0xDA, 0x06, 0x12, 0x34], .subRk .r6 0x1234), ([0xDB, 0x06, 0x12, 0x34], .sbcRk .r6 0x1234),
     ([0xDC, 0x06, 0x12, 0x34], .cmpRk .r6 0x1234), ([0xDD, 0x06, 0x12, 0x34], .andRk .r6 0x1234),
     ([0xDE, 0x06, 0x12, 0x34], .orrRk .r6 0x1234), ([0xDF, 0x06, 0x12, 0x34], .xorRk .r6 0x1234),
     ([0xE1, 0x06, 0x12, 0x34], .muk .r6 0x1234), ([0xE3, 0x06, 0x12, 0x34], .dik .r6 0x1234),
     ([0xE5, 0x06, 0x12, 0x34], .mok .r6 0x1234)] := by decide

theorem test_decode_16r : Reads Config.reference
    [([0x42, 0x06], .pshR .r6), ([0x43, 0x06], .pulR .r6), ([0xD0, 0x06], .aslR .r6), ([0xD1, 0x06], .asrR .r6),
     ([0xD2, 0x06], .rolR .r6), ([0xD3, 0x06], .rorR .r6), ([0xD4, 0x06], .comR .r6), ([0xD5, 0x06], .negR .r6)] := by decide

theorem test_decode_16fk : Reads Config.reference
    [([0x44, 0x03, 0x12, 0x34], .lfk .f3 0x1234), ([0x45, 0x03, 0x12, 0x34], .sfk .f3 0x1234),
     ([0xF8, 0x03, 0x12, 0x34], .addFk .f3 0x1234), ([0xF9, 0x03, 0x12, 0x34], .mulFk .f3 0x1234),
     ([0xFA, 0x03, 0x12, 0x34], .subFk .f3 0x1234), ([0xFB, 0x03, 0x12, 0x34], .divFk .f3 0x1234),
     ([0xFC, 0x03, 0x12, 0x34], .cmpFk .f3 0x1234), ([0xFD, 0x03, 0x12, 0x34], .modFk .f3 0x1234)] := by decide

theorem test_decode_16f : Reads Config.reference
    [([0x46, 0x03], .pshF .f3), ([0x47, 0x03], .pulF .f3), ([0xF0, 0x03], .inv .f3), ([0xF1, 0x03], .srt .f3),
     ([0xF2, 0x03], .irt .f3), ([0xF3, 0x03], .sin .f3), ([0xF4, 0x03], .cos .f3), ([0xF5, 0x03], .tan .f3),
     ([0xF6, 0x03], .abs .f3), ([0xF7, 0x03], .negF .f3)] := by decide

theorem test_decode_16rr : Reads Config.reference
    [([0x48, 0x35], .tRR .r3 .r5), ([0x49, 0x36], .trR .r3 .e), ([0x4A, 0x56], .tRr .d .r6),
     ([0x4B, 0x12], .tFF .f1 .f2), ([0x4C, 0x16], .tRF .f1 .r6), ([0x4D, 0x61], .tFR .r6 .f1),
     ([0x4E, 0x27], .trF .f2 .m), ([0x4F, 0x72], .tFr .m .f2), ([0x50, 0x35], .swpRr .r3 .r5),
     ([0x51, 0x31], .swpFf .f3 .f1), ([0xC8, 0x35], .addRr .r3 .r5), ([0xC9, 0x35], .adcRr .r3 .r5),
     ([0xCA, 0x35], .subRr .r3 .r5), ([0xCB, 0x35], .sbcRr .r3 .r5), ([0xCC, 0x35], .cmpRr .r3 .r5),
     ([0xCD, 0x35], .andRr .r3 .r5), ([0xCE, 0x35], .orrRr .r3 .r5), ([0xCF, 0x35], .xorRr .r3 .r5),
     ([0xE0, 0x35], .mulRr .r3 .r5), ([0xE2, 0x35], .divRr .r3 .r5), ([0xE4, 0x35], .modRr .r3 .r5),
     ([0xE8, 0x31], .addFf .f3 .f1), ([0xE9, 0x31], .mulFf .f3 .f1), ([0xEA, 0x31], .subFf .f3 .f1),
     ([0xEB, 0x31], .divFf .f3 .f1), ([0xEC, 0x31], .cmpFf .f3 .f1), ([0xED, 0x31], .modFf .f3 .f1),
     ([0xFE, 0x31], .powFf .f3 .f1)] := by decide

theorem test_decode_by_parameter : Reads supplied
    [([0x06], .tpc), ([0x07], .exf), ([0x28, 0x06], .stmMr .r6), ([0x52, 0x06], .ldmRm .r6),
     ([0x53, 0x06, 0x12, 0x34], .traRk .r6 0x1234), ([0x54, 0x03, 0x12, 0x34], .traFk .f3 0x1234),
     ([0x55, 0x03, 0x12, 0x34], .swpFk .f3 0x1234)] := by decide

/-- K16 with `BYTE_ORDER = little`: the low byte first (R128). -/
theorem test_decode_little : Reads { Config.reference with byteOrder := .little }
    [([0x18, 0x00, 0x01], .sta 0x0100), ([0xD8, 0x06, 0x34, 0x12], .addRk .r6 0x1234)] := by decide

/-- Reserved register bytes and undefined opcodes are refused by name (section 2.12 of the vectors). -/
theorem test_refuses :
    decode Config.reference [0x42, 0x08] = .error (.reservedRegisterByte 0x42 0x08) ∧
    decode Config.reference [0xC8, 0x83] = .error (.reservedRegisterByte 0xC8 0x83) ∧
    decode Config.reference [0xF0, 0x04] = .error (.reservedRegisterByte 0xF0 0x04) ∧
    decode Config.reference [0xD8, 0x13, 0, 0] = .error (.reservedRegisterByte 0xD8 0x13) ∧
    decode Config.reference [0x1F] = .error (.undefinedOpcode 0x1F) ∧
    decode { Config.reference with variant := .v80142 } [0xF0, 0x00] = .error (.undefinedOpcode 0xF0) := by decide

/-! ## Single steps -/

/-- The start state of the vectors: pc 0x0100, SP 0x8000, every register and flag 0. -/
def base : State :=
  { State.reset with
    pc := 0x0100, a := 0, flag := ⟨false, false, false, false, false, false, false, false⟩, x := Regs.all 0,
    f := FRegs.all 0, shadowA := 0, shadowFlag := ⟨false, false, false, false, false, false, false, false⟩,
    shadowX := Regs.all 0, shadowF := FRegs.all 0 }

/-- Only C, only I. -/
def onlyC : Flags := { base.flag with c := true }
def onlyI : Flags := { base.flag with i := true }

/-- What one step reads of the state it leads to, the bytes standing at pc. -/
def after {α : Type} (s : State) (bytes : List Byte) (look : State → α) : Option α :=
  match step { s with mem := s.mem.load s.pc bytes } with
  | .next t => some (look t)
  | _ => none

/-- A, FLAG (S Z V I T P H C from bit 7 down) and pc. -/
def acc (t : State) : Byte × Byte × Word := (t.a, t.flag.toByte, t.pc)
/-- One general register, FLAG and pc. -/
def reg (r : Reg16) (t : State) : Word × Byte × Word := (t.x.get r, t.flag.toByte, t.pc)
/-- SP, the word there as two bytes, and pc. -/
def stack (t : State) : Word × Byte × Byte × Word := (t.sp, t.mem.read t.sp, t.mem.read (t.sp + 1), t.pc)

theorem test_adi : after { base with a := 0x3A } [0x80, 0xC6] acc = some (0x00, 0x47, 0x0102) := by decide
theorem test_adi_overflow : after { base with a := 0x7F } [0x80, 0x01] acc = some (0x80, 0xA2, 0x0102) := by decide
theorem test_adm : after { base with a := 0x01, x := Regs.all 0x2000, mem := [(0x2000, 0xFF)] } [0x87] acc
    = some (0x00, 0x47, 0x0101) := by decide
theorem test_acl : after { base with a := 0x7F, flag := onlyC } [0x8A] acc = some (0x80, 0xA2, 0x0101) := by decide
theorem test_sul : after { base with a := 0x50, x := Regs.all 0x0060 } [0x92] acc = some (0xF0, 0x85, 0x0101) := by decide
theorem test_sci : after { base with a := 0x10, flag := onlyC } [0x98, 0x0F] acc = some (0x00, 0x46, 0x0102) := by decide
theorem test_cpi : after { base with a := 0x7F } [0xA0, 0xFF] acc = some (0x7F, 0xA1, 0x0102) := by decide
theorem test_ani : after { base with a := 0xF0 } [0xA8, 0x3C] acc = some (0x30, 0x04, 0x0102) := by decide
theorem test_asr : after { base with a := 0x81 } [0xC1] acc = some (0x40, 0x01, 0x0101) := by decide
theorem test_rol : after { base with a := 0x81 } [0xC2] acc = some (0x03, 0x05, 0x0101) := by decide
theorem test_neg : after { base with a := 0x80 } [0xC5] acc = some (0x80, 0xA1, 0x0101) := by decide
theorem test_swh : after { base with a := 0x12, x := Regs.all 0x3456 } [0x09] (fun t => (t.a, t.x.r0))
    = some (0x34, 0x1256) := by decide
theorem test_tah : after { base with a := 0x42, x := Regs.all 0x1234 } [0x29] (fun t => (t.a, t.x.r0))
    = some (0x42, 0x4234) := by decide
theorem test_plm : after { base with x := Regs.all 0x2000, sp := 0x7FFF, mem := [(0x7FFF, 0x66)] } [0x37]
    (fun t => (t.sp, t.mem.read 0x2000)) = some (0x8000, 0x66) := by decide
theorem test_pha_wraps : after { base with sp := 0, a := 0x11 } [0x38] (fun t => (t.sp, t.mem.read 0xFFFF))
    = some (0xFFFF, 0x11) := by decide
theorem test_lda : after { base with mem := [(0x1234, 0x77)] } [0x10, 0x12, 0x34] acc = some (0x77, 0x00, 0x0103) := by
  decide
theorem test_jcc_taken : after base [0x67, 0x00, 0x10] State.pc = some 0x0110 := by decide
theorem test_jcc_not_taken : after { base with flag := onlyC } [0x67, 0x00, 0x10] State.pc = some 0x0103 := by decide
theorem test_jzs_back : after { base with pc := 0x0200, flag := { base.flag with z := true } } [0x69, 0xFF, 0xF0]
    State.pc = some 0x01F0 := by decide
theorem test_jsr : after { base with pc := 0x0002 } [0x78, 0x00, 0x0A] stack = some (0x7FFE, 0x00, 0x05, 0x000A) := by
  decide
theorem test_rfi : after { base with sp := 0x7FFE, mem := [(0x7FFE, 0x00), (0x7FFF, 0x11)] } [0x7C]
    (fun t => (t.pc, t.sp, t.flag.i)) = some (0x0011, 0x8000, true) := by decide
theorem test_irq_taken : after { base with pc := 0x0010, a := 7, flag := onlyI } [0x7D] (fun t => (stack t, t.flag.i, t.a))
    = some ((0x7FFE, 0x00, 0x11, 0x0040), false, 7) := by decide
theorem test_irq_discarded : after { base with pc := 0x0010 } [0x7D] stack = some (0x8000, 0x5A, 0x5A, 0x0011) := by
  decide
theorem test_trp : after { base with flag := onlyI } [0xFF] stack = some (0x7FFE, 0x01, 0x01, 0x0060) := by decide
theorem test_external_irq :
    after { base with pc := 0x0123, flag := onlyI, events := .offer ⟨false, true⟩ (.cycle []) } [0x00] stack
      = some (0x7FFE, 0x01, 0x23, 0x0040) := by decide
theorem test_trR : after { base with x := { base.x with r0 := 0x1280 } } [0x49, 0x32] (reg .r3)
    = some (0xFF80, 0x00, 0x0102) := by decide
theorem test_tRr_half : after { base with x := { base.x with r0 := 0x12AB } } [0x4A, 0x10] (reg .r0)
    = some (0xABAB, 0x00, 0x0102) := by decide
theorem test_pshR : after { base with x := { base.x with r3 := 0x1234 } } [0x42, 0x03] stack
    = some (0x7FFE, 0x12, 0x34, 0x0102) := by decide
theorem test_lrK_wraps : after { base with mem := [(0x0000, 0xCD), (0xFFFF, 0xAB)] } [0x40, 0x04, 0xFF, 0xFF] (reg .r4)
    = some (0xABCD, 0x00, 0x0104) := by decide
theorem test_addRr : after { base with x := { base.x with r3 := 0x7FFF, r4 := 1 } } [0xC8, 0x34] (reg .r3)
    = some (0x8000, 0xA2, 0x0102) := by decide
theorem test_subRk : after base [0xDA, 0x03, 0x00, 0x01] (reg .r3) = some (0xFFFF, 0x87, 0x0104) := by decide
theorem test_asrR : after { base with x := { base.x with r3 := 0x8001 } } [0xD1, 0x03] (reg .r3)
    = some (0xC000, 0x85, 0x0102) := by decide
theorem test_mulRr : after { base with x := { base.x with r3 := 0xFF, r4 := 0xFF } } [0xE0, 0x34] (reg .r3)
    = some (0xFE01, 0x84, 0x0102) := by decide
theorem test_divRr : after { base with x := { base.x with r3 := 0x64, r4 := 7 } } [0xE2, 0x34] (reg .r3)
    = some (0x000E, 0x00, 0x0102) := by decide
/-- -7 and 2, with `DIV_SIGNED`. -/
def sevenByTwo : State :=
  { base with
    cfg := { Config.reference with divSigned := true }, x := { base.x with r3 := 0xFFF9, r4 := 2 } }
theorem test_divRr_signed : after sevenByTwo [0xE2, 0x34] (fun t => t.x.r3) = some 0xFFFD := by decide
theorem test_modRr_signed : after sevenByTwo [0xE4, 0x34] (fun t => t.x.r3) = some 0xFFFF := by decide

/-- The first row of section 2.13. -/
def beforeExr : State :=
  { base with
    cfg := { Config.reference with variant := .v8042 }, a := 0x11, flag := { base.flag with s := true },
    x := Regs.all 0x2222, shadowA := 0x33, shadowFlag := onlyI, shadowX := Regs.all 0x4444 }
theorem test_exr_smallest : after beforeExr [0x08] (fun t => (acc t, t.x.r0, t.x.r1, t.shadowA, t.shadowFlag.s))
    = some ((0x33, 0x10, 0x0101), 0x4444, 0x2222, 0x11, true) := by decide
theorem test_tRF : after { base with x := { base.x with r3 := 0x4200 } } [0x4C, 0x03] (fun t => t.f.f0)
    = some 0x4200 := by decide
theorem test_lfk : after { base with mem := [(0x0300, 0x3C), (0x0301, 0x00)] } [0x44, 0x01, 0x03, 0x00]
    (fun t => (t.f.f1, t.pc)) = some (0x3C00, 0x0104) := by decide
def beforeSwap : State :=
  { base with
    cfg := supplied, f := { base.f with f0 := 0x1111 }, mem := [(0x0400, 0x22), (0x0401, 0x33)] }
theorem test_swpFk : after beforeSwap [0x55, 0x00, 0x04, 0x00]
    (fun t => (t.f.f0, t.mem.read 0x0400, t.mem.read 0x0401)) = some (0x2233, 0x11, 0x11) := by decide
theorem test_tpc : after { base with cfg := supplied, pc := 0x1234 } [0x06] (fun t => (t.x.r0, t.pc))
    = some (0x1234, 0x1235) := by decide

/-- Row `MEM_MAP` with rom of section 2.16. -/
def withRom : State :=
  { base with
    cfg := { Config.reference with memMap := [⟨0xC000, 0xFFFF, .rom⟩] },
    mem := Memory.load [] 0x0100 [0x18, 0xC0, 0x00] }
theorem test_rom : step withRom = .fault (.accessFault (writeOf 0xC000 .byte)) := rfl

/-- Reset is the launch of the reference platform with the draw of notes/assumptions/3.md. -/
theorem test_reset_is_a_launch :
    launch Config.reference
      ⟨0, Config.resetByte, Flags.reset, Regs.all Config.resetWord, FRegs.all Config.resetWord, Config.resetByte,
        Flags.reset, Regs.all Config.resetWord, FRegs.all Config.resetWord⟩ [] (.cycle []) = .next State.reset := rfl

/-- FLAG after reset is the byte the log names. -/
theorem test_reset_flag : State.reset.flag.toByte = Config.resetByte ∧ State.reset.fa = 0x5A5A := by decide

/-! ## Hypotheses that are met -/

/-- A platform with an absent byte, a rom byte and a device byte. -/
def barred : Config :=
  { Config.reference with
    memMap := [⟨0x2000, 0x2000, .absent⟩, ⟨0x3000, 0x3000, .rom⟩, ⟨0x4000, 0x4000, .device⟩] }

/-- HL and SP on a byte of that platform. -/
def on (a : Word) : State := { base with cfg := barred, x := Regs.all a, sp := a }

theorem absent_denied (q : Access) (h : (0x2000 : Word) ∈ q.touched) : Denied barred q :=
  ⟨0x2000, h, .inl (by decide)⟩

theorem rom_denied (q : Access) (h : (0x3000 : Word) ∈ q.touched) (hw : q.dir = .write) : Denied barred q :=
  ⟨0x3000, h, .inr ⟨by decide, hw⟩⟩

/-- The hypotheses of `FaultsInOrder`. -/
def Fails (accesses : State → List Access) (s : State) (before : List Access) (q : Access) (later : List Access) : Prop :=
  accesses s = before ++ q :: later ∧ (∀ p ∈ before, allows s.cfg p = true) ∧ Denied s.cfg q

theorem fails_first {accesses : State → List Access} {a : Word} {q : Access} {later : List Access}
    (h : accesses (on a) = q :: later) (hd : Denied barred q) : Fails accesses (on a) [] q later :=
  ⟨h, by simp, hd⟩

theorem fails_second {accesses : State → List Access} {a : Word} {p q : Access} {later : List Access}
    (h : accesses (on a) = p :: q :: later) (hp : allows barred p = true) (hd : Denied barred q) :
    Fails accesses (on a) [p] q later :=
  ⟨h, by rintro r hr; rw [List.mem_singleton.1 hr]; exact hp, hd⟩

/-- NOP, STA 0xFFFF, RET, LrK at 0xFFFE on, each at pc. -/
def nopAt : State := { base with mem := [(0x0100, 0x00)] }

theorem witness_DecodeEncodeRoundTrip :
    encodingsDistinct supplied = true ∧ (Instr.swpFk .f3 0xFFFF).wellFormed supplied = true := by decide

theorem witness_DecodedBytesAreTheEncoding :
    decode supplied [0x55, 0x03, 0xFF, 0xFF, 0x09] = .ok (.swpFk .f3 0xFFFF, [0x09]) := by decide

/-- 0x5A begins no instruction of the reference machine. -/
theorem no_instruction_5A (i : Instr) (m : Memory) (a : Word) (hm : m.read a = 0x5A) (bytes : List Byte)
    (h : encode Config.reference i = some bytes) : ¬ HoldsAt m a bytes := by
  cases i <;> simp [encode, Config.reference] at h <;> subst h <;> simp [HoldsAt, hm]

theorem witness_UndefinedBytesFault_opcode :
    AboutToFetch base ∧ encodingsDistinct base.cfg = true ∧
    (∀ n : Nat, n < 4 → allows base.cfg (fetchOf (base.pc + BitVec.ofNat 16 n)) = true) ∧
    (∀ i bytes, i.wellFormed base.cfg = true → encode base.cfg i = some bytes → ¬ HoldsAt base.mem base.pc bytes) ∧
    ¬ IsOpcode base.cfg (base.mem.read base.pc) := by
  refine ⟨⟨rfl, rfl⟩, by decide, by decide, fun i bytes _ h => no_instruction_5A i _ _ rfl bytes h, ?_⟩
  rintro ⟨i, bytes, -, h⟩
  exact no_instruction_5A i [] 0 rfl _ h ⟨rfl, by
    cases i <;> simp [encode, Config.reference, base, State.reset, Memory.read, Config.unloadedByte] at h⟩

theorem no_such_pair (d s : Reg16) : pairByte d.code s.code ≠ 0x80 := by cases d <;> cases s <;> decide

/-- TRR with a reserved nibble. -/
def reserved : State := { base with mem := [(0x0100, 0x48), (0x0101, 0x80)] }

theorem witness_UndefinedBytesFault_register :
    AboutToFetch reserved ∧ encodingsDistinct reserved.cfg = true ∧
    (∀ n : Nat, n < 4 → allows reserved.cfg (fetchOf (reserved.pc + BitVec.ofNat 16 n)) = true) ∧
    (∀ i bytes, i.wellFormed reserved.cfg = true → encode reserved.cfg i = some bytes →
      ¬ HoldsAt reserved.mem reserved.pc bytes) ∧
    IsOpcode reserved.cfg (reserved.mem.read reserved.pc) := by
  refine ⟨⟨rfl, rfl⟩, by decide, by decide, fun i bytes _ h => ?_, .tRR .r0 .r0, [0x00], by decide, by decide⟩
  have h0 : reserved.mem.read reserved.pc = 0x48 := rfl
  have h1 : reserved.mem.read (reserved.pc + 1#16) = 0x80 := rfl
  cases i <;> simp [encode, reserved, base, State.reset, Config.reference] at h <;> subst h <;>
    simp [HoldsAt, h0, h1]
  exact fun h => no_such_pair _ _ h.symm

theorem witness_OpcodesOfEachVariant : NoParameterEncodings Config.reference :=
  ⟨rfl, rfl, rfl, rfl, rfl, rfl, rfl⟩

/-- A four-byte instruction across the end of memory. -/
def atTheEnd : State := { base with pc := 0xFFFE, mem := [(0, 0x12), (1, 0x34), (0xFFFE, 0x40), (0xFFFF, 0x07)] }

theorem witness_StepRunsDecodedInstruction :
    AboutToFetch atTheEnd ∧ encodingsDistinct atTheEnd.cfg = true ∧ (Instr.lrK .r7 0x1234).wellFormed atTheEnd.cfg = true ∧
    encode atTheEnd.cfg (.lrK .r7 0x1234) = some [0x40, 0x07, 0x12, 0x34] ∧
    HoldsAt atTheEnd.mem atTheEnd.pc [0x40, 0x07, 0x12, 0x34] ∧
    ∀ n : Nat, n < 4 → allows atTheEnd.cfg (fetchOf (atTheEnd.pc + BitVec.ofNat 16 n)) = true :=
  ⟨⟨rfl, rfl⟩, by decide, by decide, by decide, ⟨rfl, rfl, rfl, rfl, trivial⟩, by decide⟩

theorem witness_FetchFaultOrder_opcode :
    AboutToFetch { on 0 with pc := 0x2000 } ∧ encodingsDistinct barred = true ∧ Denied barred (fetchOf 0x2000) :=
  ⟨⟨rfl, rfl⟩, by decide, absent_denied _ (by decide)⟩

theorem witness_FetchFaultOrder_operand :
    let s := { on 0 with pc := 0x1FFE, mem := [(0x1FFE, 0x70), (0x1FFF, 0x00)] }
    AboutToFetch s ∧ (Instr.jmp 0).wellFormed s.cfg = true ∧
    encode s.cfg (.jmp 0) = some (s.mem.read s.pc :: [0x00, 0x00]) ∧
    (∀ m : Nat, m < 2 → allows s.cfg (fetchOf (s.pc + BitVec.ofNat 16 m)) = true) ∧
    Denied s.cfg (fetchOf (s.pc + BitVec.ofNat 16 2)) :=
  ⟨⟨rfl, rfl⟩, by decide, by decide, by decide, absent_denied _ (by decide)⟩

theorem witness_ExternalRequests :
    base.status ≠ .halted ∧ { base with events := .cycle [⟨true, true⟩] }.events.head = ⟨true, true⟩ ∧
    (let s := { base with flag := onlyI, events := .offer ⟨false, true⟩ (.oracle 0) }
     s.events.head = ⟨false, true⟩ ∧ s.flag.i = true ∧ s.events.tail = .oracle 0) ∧
    (let s := { base with events := .cycle [⟨false, true⟩] }
     s.events.head = ⟨false, true⟩ ∧ s.flag.i = false) ∧
    (let s := { base with status := .waiting }
     s.events.head = .quiet ∧ s.status = .waiting) := by decide

/-- R496: a level-sensitive line keeps offering. A request that I masks is offered again at every boundary. -/
theorem test_level_sensitive_line :
    let s := { base with status := .waiting, events := .cycle [⟨false, true⟩] }
    step s = .next s ∧ ∃ t, step { s with flag := onlyI } = .next t ∧ t.status = .running ∧ t.events = s.events :=
  ⟨rfl, _, rfl, rfl, rfl⟩

/-- R497: what the oracle offers at boundary 7 decides, and nothing is known of it. -/
theorem test_oracle_is_asked :
    takenRequest { base with events := .oracle 7 } = requestTaken (Config.extEvents 7) base.flag.i ∧
    (passBoundary { base with events := .oracle 7 }).events = .oracle 8 := ⟨rfl, rfl⟩

theorem witness_StoredByteIsFetchedNext :
    AboutToFetch base ∧ encodingsDistinct base.cfg = true ∧ Instr.nop.wellFormed base.cfg = true ∧
    encode base.cfg .nop = some [0x00] ∧ base.a = 0x00 ∧ allows base.cfg (writeOf (base.pc + 3#16) .byte) = true ∧
    allows base.cfg (fetchOf (base.pc + 3#16)) = true :=
  ⟨⟨rfl, rfl⟩, by decide⟩

theorem witness_StepKeepsInvariant : Inv nopAt ∧ step nopAt = .next { nopAt with pc := 0x0101 } :=
  ⟨by unfold Inv; decide, rfl⟩

theorem witness_StepKeepsParameters : step nopAt = .next { nopAt with pc := 0x0101 } := rfl

theorem witness_LaunchState :
    { Config.reference with resetPc := none }.resetPc = none ∧
    (barred.resetPc = some 0 ∧ memKind barred (0x2000, (1 : Byte)).1 = .absent) ∧
    (∀ c ∈ [((0xFFFF : Word), (1 : Byte)), (0xFFFF, 2)], memKind Config.reference c.1 ≠ .absent) ∧
    Config.reference.resetSp = some 0x8000 :=
  ⟨rfl, ⟨rfl, rfl⟩, fun _ _ => (by decide : MemKind.ram ≠ .absent), rfl⟩

theorem witness_ShadowRegistersOnlyExchanged : Instr.pulF .f3 ≠ .exr ∧ Instr.pulF .f3 ≠ .exf := by decide

theorem witness_TrapFlagHasNoEffect :
    Instr.rfi ≠ .sft ∧ Instr.rfi ≠ .cft ∧ Instr.rfi ≠ .exr ∧ ∀ k, Instr.rfi ≠ .jts k ∧ Instr.rfi ≠ .jtc k := by
  refine ⟨by decide, by decide, by decide, fun k => ⟨?_, ?_⟩⟩ <;> simp

theorem witness_AbsentRegistersDoNotExist :
    Instr.exr.wellFormed { Config.reference with variant := .v8042 } = true ∧
    (Instr.tRR .r0 .r7).wellFormed { Config.reference with variant := .v80142 } = true := by decide

theorem witness_FlagsKept :
    exec .asl base = .next { base with flag := { base.flag with z := true, p := true }, pc := 0x0101 } ∧
    FlagName.v ∈ flagsKept .asl := ⟨rfl, by decide⟩

theorem witness_StackPointerAndStatus : exec .hlt base = .next { base with pc := 0x0101, status := .halted } := rfl

theorem witness_MemoryFrame :
    exec (.sta 0xFFFF) base = .next { base with pc := 0x0103, mem := [(0xFFFF, 0)] } ∧
    ∀ q ∈ dataAccesses (.sta 0xFFFF) base, q.dir = .write → (0 : Word) ∉ q.touched :=
  ⟨rfl, by decide⟩

theorem witness_CompletesExactlyWhenClear : Clear (.swpFk .f3 0xFFFF) base ∧ Clear .irq { base with flag := onlyI } :=
  ⟨⟨nofun, nofun, nofun, by decide⟩, nofun, nofun, fun k hk => by cases hk; decide, by decide⟩

theorem witness_InstructionFaultOrder_access :
    (∀ k, trapTaken .swm (on 0x3000) = some k → vectorOf barred k ≠ none) ∧
    Fails (dataAccesses .swm) (on 0x3000) [readOf 0x3000 .byte] (writeOf 0x3000 .byte) [] :=
  ⟨nofun, fails_second rfl (by decide) (rom_denied _ (by decide) rfl)⟩

theorem witness_InstructionFaultOrder_vector_and_divisor :
    trapTaken .nmi base = some .nmi ∧ vectorOf { Config.reference with vecNmi := none } .nmi = none ∧
    divisor (.mok .r0 0) base = some 0#16 := ⟨rfl, rfl, rfl⟩

theorem witness_MemoryPrimitives :
    allows base.cfg (readOf 0xFFFF .word) = true ∧ allows base.cfg (writeOf 0xFFFF .word) = true ∧
    Denied barred (writeOf 0x1FFF .word) ∧
    (¬ Denied barred (readOf 0x4000 .byte) ∧ ∃ a ∈ (readOf 0x4000 .byte).touched, memKind barred a = .device) ∧
    Config.reference.memMap = [] := by
  refine ⟨by decide, by decide, absent_denied _ (by decide), ⟨?_, 0x4000, by decide, by decide⟩, rfl⟩
  rintro ⟨a, ha, h | ⟨-, h⟩⟩
  · rw [List.mem_singleton.1 ha] at h
    exact absurd h (by decide)
  · exact absurd h (by decide)

theorem readable_base : readable8 .m base := fun _ => by decide
theorem writable_base : writable8 .m base := fun _ => by decide

theorem witness_OperandAccess :
    readable8 .m base ∧ writable8 .m base ∧
    op8Write .h 0xFF base = .next { base with x := { base.x with r0 := 0xFF00 } } ∧ Reg8.h ≠ .m ∧
    (Reg8.m ≠ .b ∧ Reg8.b ≠ .h ∧ Reg8.b ≠ .l) :=
  ⟨readable_base, writable_base, rfl, by decide, by decide⟩

/-- SP at the low end: pushes wrap. -/
theorem witness_StackPrimitives :
    let s := { base with sp := 0 }
    allows s.cfg (writeOf (s.sp - 1#16) .byte) = true ∧ allows s.cfg (readOf s.sp .byte) = true ∧
    allows s.cfg (writeOf (s.sp - 2#16) .word) = true ∧ allows s.cfg (readOf s.sp .word) = true := by decide

theorem witness_PushThenPull :
    let s := { base with sp := 1 }
    (readable8 .m s ∧ writable8 .m s) ∧ allows s.cfg (writeOf (s.sp - 1#16) .byte) = true ∧
    allows s.cfg (readOf (s.sp - 1#16) .byte) = true ∧ allows s.cfg (writeOf (s.sp - 2#16) .word) = true ∧
    allows s.cfg (readOf (s.sp - 2#16) .word) = true :=
  ⟨⟨fun _ => by decide, fun _ => by decide⟩, by decide, by decide, by decide, by decide⟩

theorem witness_CallThenReturn :
    let s := { base with sp := 1 }
    allows s.cfg (writeOf (s.sp - 2#16) .word) = true ∧ allows s.cfg (readOf (s.sp - 2#16) .word) = true ∧
    s.cfg.jmmIndirect = false := by decide

theorem witness_TrapEntry :
    { Config.reference with vecIrq := none }.vecIrq = none ∧ base.cfg.vecTrp = some 0x0060 ∧
    allows base.cfg (writeOf (base.sp - 2#16) .word) = true ∧
    Denied (on 0x2001).cfg (writeOf ((on 0x2001).sp - 2#16) .word) :=
  ⟨by decide, by decide, by decide, absent_denied _ (by decide)⟩

theorem witness_TrapThenReturn :
    trap .trp { base with sp := 1 } = .next { base with sp := 0xFFFF, pc := 0x0060, mem := [(0, 0x01), (0xFFFF, 0x01)] } ∧
    allows base.cfg (readOf 0xFFFF .word) = true := ⟨rfl, by decide⟩

theorem witness_TrapInstructions :
    base.flag.i = false ∧ { base with flag := onlyI }.flag.i = true ∧ base.cfg.vecIrq = some 0x0040 ∧
    base.cfg.vecNmi = some 0x0050 ∧ base.cfg.vecTrp = some 0x0060 ∧
    allows base.cfg (writeOf (base.sp - 2#16) .word) = true ∧
    ((on 0x2002).cfg.vecNmi = some 0x0050 ∧ Denied (on 0x2002).cfg (writeOf ((on 0x2002).sp - 2#16) .word)) :=
  ⟨by decide, by decide, by decide, by decide, by decide, by decide, by decide, absent_denied _ (by decide)⟩

/-- The register forms of the 8-bit arithmetic: M readable, and M denied. -/
theorem witness_AddToAccumulator :
    (Instr.adm, Reg8.m, (0x87 : Byte)) ∈ adForms ∧ (Instr.acm, Reg8.m, (0x8F : Byte)) ∈ acForms ∧ readable8 .m base ∧
    Fails (readsM .m) (on 0x2000) [] (readOf 0x2000 .byte) [] :=
  ⟨by decide, by decide, readable_base, fails_first rfl (absent_denied _ (by decide))⟩

theorem witness_SubtractFromAccumulator :
    (Instr.sum, Reg8.m, (0x97 : Byte)) ∈ suForms ∧ (Instr.scm, Reg8.m, (0x9F : Byte)) ∈ scForms ∧ readable8 .m base ∧
    Fails (readsM .m) (on 0x2000) [] (readOf 0x2000 .byte) [] :=
  ⟨by decide, by decide, readable_base, fails_first rfl (absent_denied _ (by decide))⟩

theorem witness_CompareAccumulator :
    (Instr.cpm, Reg8.m, (0xA7 : Byte)) ∈ cpForms ∧ readable8 .m base ∧
    Fails (readsM .m) (on 0x2000) [] (readOf 0x2000 .byte) [] :=
  ⟨by decide, readable_base, fails_first rfl (absent_denied _ (by decide))⟩

theorem witness_LogicOnAccumulator :
    (Instr.anm, Reg8.m, (0xAF : Byte)) ∈ anForms ∧ (Instr.orm, Reg8.m, (0xB7 : Byte)) ∈ orForms ∧
    (Instr.xrm, Reg8.m, (0xBF : Byte)) ∈ xrForms ∧ readable8 .m base ∧
    Fails (readsM .m) (on 0x2000) [] (readOf 0x2000 .byte) [] :=
  ⟨by decide, by decide, by decide, readable_base, fails_first rfl (absent_denied _ (by decide))⟩

theorem witness_MultiByteArithmetic :
    [((0xFF : Byte), (0xFF : Byte)), (0xFF, 0xFF), (0xFF, 0xFF)] ≠ [] ∧ Reg16.r0 ≠ Reg16.r7 := by decide

theorem witness_OverflowIsReported :
    (Instr.adm, Reg8.m, (0x87 : Byte)) ∈ adForms ∧ (Instr.acm, Reg8.m, (0x8F : Byte)) ∈ acForms ∧
    (Instr.sum, Reg8.m, (0x97 : Byte)) ∈ suForms ∧ (Instr.scm, Reg8.m, (0x9F : Byte)) ∈ scForms ∧
    (Instr.cpm, Reg8.m, (0xA7 : Byte)) ∈ cpForms ∧ readable8 .m base :=
  ⟨by decide, by decide, by decide, by decide, by decide, readable_base⟩

theorem witness_SwapWithAccumulator :
    (Instr.swm, Reg8.m, (0x0F : Byte)) ∈ swForms ∧ readable8 .m base ∧ writable8 .m base ∧
    Fails (fun s => readsM .m s ++ writesM .m s) (on 0x3000) [readOf 0x3000 .byte] (writeOf 0x3000 .byte) [] :=
  ⟨by decide, readable_base, writable_base, fails_second rfl (by decide) (rom_denied _ (by decide) rfl)⟩

theorem witness_AccumulatorTransfers :
    (Instr.tma, Reg8.m, (0x27 : Byte)) ∈ trAForms ∧ (Instr.tam, Reg8.m, (0x2F : Byte)) ∈ tArForms ∧ readable8 .m base ∧
    writable8 .m base ∧ Fails (readsM .m) (on 0x2000) [] (readOf 0x2000 .byte) [] ∧
    Fails (writesM .m) (on 0x3000) [] (writeOf 0x3000 .byte) [] :=
  ⟨by decide, by decide, readable_base, writable_base, fails_first rfl (absent_denied _ (by decide)),
    fails_first rfl (rom_denied _ (by decide) rfl)⟩

theorem witness_BytePullAndPush :
    (Instr.plm, Reg8.m, (0x37 : Byte)) ∈ plForms ∧ (Instr.phm, Reg8.m, (0x3F : Byte)) ∈ phForms ∧
    (allows base.cfg (readOf base.sp .byte) = true ∧ writable8 .m base) ∧
    (readable8 .m base ∧ allows base.cfg (writeOf (base.sp - 1#16) .byte) = true) ∧
    Fails (fun s => readOf s.sp .byte :: writesM .m s) (on 0x3000) [readOf 0x3000 .byte] (writeOf 0x3000 .byte) [] ∧
    Fails (fun s => readsM .m s ++ [writeOf (s.sp - 1#16) .byte]) (on 0x2001) [readOf 0x2001 .byte]
      (writeOf 0x2000 .byte) [] :=
  ⟨by decide, by decide, ⟨by decide, writable_base⟩, ⟨readable_base, by decide⟩,
    fails_second rfl (by decide) (rom_denied _ (by decide) rfl), fails_second rfl (by decide) (absent_denied _ (by decide))⟩

theorem witness_LoadAndStoreAccumulator :
    allows base.cfg (readOf 0xFFFF .byte) = true ∧ allows base.cfg (writeOf 0xFFFF .byte) = true ∧
    Fails (fun _ => [readOf 0x2000 .byte]) (on 0) [] (readOf 0x2000 .byte) [] ∧
    Fails (fun _ => [writeOf 0x3000 .byte]) (on 0) [] (writeOf 0x3000 .byte) [] :=
  ⟨by decide, by decide, fails_first rfl (absent_denied _ (by decide)), fails_first rfl (rom_denied _ (by decide) rfl)⟩

theorem witness_CompareThenJump : (Instr.cpm, Reg8.m, (0xA7 : Byte)) ∈ cpForms ∧ readable8 .m base :=
  ⟨by decide, readable_base⟩

theorem witness_JumpsCallsReturns :
    let s := { base with cfg := { Config.reference with jmmIndirect := true }, x := Regs.all 0xFFFF, sp := 0 }
    s.cfg.jmmIndirect = true ∧ allows s.cfg (readOf s.x.r0 .word) = true ∧
    allows s.cfg (writeOf (s.sp - 2#16) .word) = true ∧ allows s.cfg (readOf s.sp .word) = true ∧
    Fails (fun s => [writeOf (s.sp - 2#16) .word]) (on 0x2002) [] (writeOf 0x2000 .word) [] ∧
    Fails (fun s => [readOf s.sp .word]) (on 0x1FFF) [] (readOf 0x1FFF .word) [] ∧
    Denied { barred with jmmIndirect := true } (readOf 0x2000 .word) :=
  ⟨rfl, by decide, by decide, by decide, fails_first rfl (absent_denied _ (by decide)),
    fails_first rfl (absent_denied _ (by decide)), 0x2000, by decide, .inl (by decide)⟩

theorem witness_NopAndHalt : { base with status := .halted }.status = .halted := rfl

theorem witness_WaitForInterrupt :
    let s := { base with status := .waiting }
    (s.status = .waiting ∧ s.events = .cycle []) ∧
    ({ s with events := .cycle [⟨false, true⟩] }.events.head = ⟨false, true⟩ ∧ s.flag.i = false) ∧
    ({ s with events := .cycle [⟨true, false⟩] }.events.head = ⟨true, false⟩) ∧
    (s.cfg.vecNmi = some 0x0050 ∧ s.cfg.vecIrq = some 0x0040 ∧ { s with flag := onlyI }.flag.i = true) ∧
    allows s.cfg (writeOf (s.sp - 2#16) .word) = true := by decide

/-- Both ends of R543 that are waiting for ever: nothing offered, and a masked line that keeps offering. -/
theorem witness_WaitForInterrupt_for_ever :
    WaitsForEver { base with status := .waiting } ∧
    WaitsForEver { base with status := .waiting, events := .cycle [⟨false, true⟩] } := by
  refine ⟨⟨rfl, fun n => ?_⟩, ⟨rfl, fun n => ?_⟩⟩
  · induction n with
    | zero => rfl
    | succ n ih => exact ih
  · show requestTaken ((EventStream.cycle [⟨false, true⟩]).drop n).head false = none
    rw [EventStream.drop_cycle_singleton]; rfl

theorem witness_WordSumsAndCompare : sumForms.length = 4 ∧ logicForms.length = 4 := by decide

theorem witness_DivideAndRemainder :
    base.x.get .r7 = 0#16 ∧ { base with x := Regs.all 0xFFFF }.x.get .r7 ≠ 0#16 ∧ (0xFFFF#16 : Word) ≠ 0#16 := by decide

theorem witness_WordTransfers :
    readable8 .m base ∧ writable8 .m base ∧ Fails (readsM .m) (on 0x2000) [] (readOf 0x2000 .byte) [] ∧
    Fails (writesM .m) (on 0x3000) [] (writeOf 0x3000 .byte) [] ∧ Reg16.r2 ≠ .r0 ∧ Reg16.r2 ≠ .r7 :=
  ⟨readable_base, writable_base, fails_first rfl (absent_denied _ (by decide)),
    fails_first rfl (rom_denied _ (by decide) rfl), by decide, by decide⟩

/-- Words at the end of memory, and words that reach a barred byte with their second half. -/
theorem witness_WordLoadStorePushPull :
    let s := { base with sp := 0, x := Regs.all 0xFFFF }
    (allows s.cfg (writeOf (s.sp - 2#16) .word) = true ∧ allows s.cfg (readOf s.sp .word) = true) ∧
    (allows s.cfg (readOf 0xFFFF .word) = true ∧ allows s.cfg (writeOf s.x.r0 .word) = true) ∧
    Fails (fun s => [writeOf (s.sp - 2#16) .word]) (on 0x2001) [] (writeOf 0x1FFF .word) [] ∧
    Fails (fun s => [readOf s.sp .word]) (on 0x1FFF) [] (readOf 0x1FFF .word) [] ∧
    Fails (fun _ => [writeOf 0x2FFF .word]) (on 0) [] (writeOf 0x2FFF .word) [] ∧
    Fails (fun s => [writeOf s.x.r0 .word]) (on 0x2FFF) [] (writeOf 0x2FFF .word) [] :=
  ⟨by decide, by decide, fails_first rfl (absent_denied _ (by decide)), fails_first rfl (absent_denied _ (by decide)),
    fails_first rfl (rom_denied _ (by decide) rfl), fails_first rfl (rom_denied _ (by decide) rfl)⟩

theorem witness_ShadowExchange : hasReg .v8842 .r2 = true ∧ hasReg .v8842 .r3 = false := by decide

theorem witness_FloatTransfers :
    readable8 .m base ∧ writable8 .m base ∧ Fails (readsM .m) (on 0x2000) [] (readOf 0x2000 .byte) [] ∧
    Fails (writesM .m) (on 0x3000) [] (writeOf 0x3000 .byte) [] ∧ FReg.f2 ≠ .f0 ∧ FReg.f2 ≠ .f3 :=
  ⟨readable_base, writable_base, fails_first rfl (absent_denied _ (by decide)),
    fails_first rfl (rom_denied _ (by decide) rfl), by decide, by decide⟩

theorem witness_FloatLoadStorePushPull :
    (allows base.cfg (readOf 0xFFFF .word) = true ∧ allows base.cfg (writeOf 0xFFFF .word) = true) ∧
    (allows base.cfg (writeOf (base.sp - 2#16) .word) = true ∧ allows base.cfg (readOf base.sp .word) = true) ∧
    Fails (fun _ => [readOf 0x2FFF .word, writeOf 0x2FFF .word]) (on 0) [readOf 0x2FFF .word] (writeOf 0x2FFF .word) [] ∧
    Fails (fun _ => [readOf 0x1FFF .word]) (on 0) [] (readOf 0x1FFF .word) [] :=
  ⟨by decide, by decide, fails_second rfl (by decide) (rom_denied _ (by decide) rfl),
    fails_first rfl (absent_denied _ (by decide))⟩

end Sys2Proof.Tests
end

/-! SUPPORT. What every instruction leaves alone: a footprint that each update of the state keeps, carried through the
shared operations to one theorem about `exec`. -/
namespace Sys2Proof.Proofs

open Machine Claims

/-! ## What holds of an answer -/

section Answers

variable {α β : Type} {P : α → Prop} {Q : β → Prop} {r : Res α} {k : α → Res β}

/-- If the operation answers a value, the value is such: nothing is said of a fault or a refusal. -/
def Answers (P : α → Prop) (r : Res α) : Prop := ∀ a, r = .next a → P a

theorem Answers.next {a : α} (h : P a) : Answers P (.next a) := by
  intro b hb
  obtain rfl := Host.Outcome.next.inj hb
  exact h

theorem Answers.fault {e : Fault} : Answers P (.fault e) := fun _ h => nomatch h

theorem Answers.refused {e : Refusal} : Answers P (.refused e) := fun _ h => nomatch h

theorem Answers.andThen (hr : Answers P r) (hk : ∀ a, P a → Answers Q (k a)) : Answers Q (andThen r k) := by
  intro b hb
  obtain ⟨a, ha, hka⟩ := andThen_eq_next.1 hb
  exact hk a (hr a ha) b hka

/-- Going on after an operation whose value does not matter. -/
theorem Answers.afterAny (hk : ∀ a, Answers Q (k a)) : Answers Q (Machine.andThen r k) :=
  Answers.andThen (P := fun _ => True) (fun _ _ => trivial) fun a _ => hk a

end Answers

/-! ## The footprint -/

/-- The flags of the list are in `g` what they are in `f`. -/
def KeepsFlags (kept : List FlagName) (f g : Flags) : Prop := ∀ n ∈ kept, flagOf n g = flagOf n f

theorem KeepsFlags.refl {kept : List FlagName} {f : Flags} : KeepsFlags kept f f := fun _ _ => rfl

theorem KeepsFlags.trans {kept : List FlagName} {f g h : Flags} (hfg : KeepsFlags kept f g)
    (hgh : KeepsFlags kept g h) : KeepsFlags kept f h := fun n hn => (hgh n hn).trans (hfg n hn)

/-- What is told of the state `t` after an instruction, from the state `s` before it: the parameters and the offers are
kept (R49, R497), SP and the run status are the given ones (R31, R44), the listed flags are kept (R46), and memory
stays canonical. -/
structure Footprint (kept : List FlagName) (sp : Word) (status : Status) (s t : State) : Prop where
  cfg_eq : t.cfg = s.cfg
  events_eq : t.events = s.events
  sp_eq : t.sp = sp
  status_eq : t.status = status
  flags : KeepsFlags kept s.flag t.flag
  mem_wf : s.mem.wf → t.mem.wf

namespace Footprint

variable {kept : List FlagName} {p : Word} {q : Status} {s t : State}

theorem refl {s : State} : Footprint kept s.sp s.status s s := ⟨rfl, rfl, rfl, rfl, .refl, id⟩

theorem setPc (h : Footprint kept p q s t) (v : Word) : Footprint kept p q s (t.setPc v) := { h with }

theorem advance (h : Footprint kept p q s t) (n : Word) : Footprint kept p q s (t.advance n) := { h with }

theorem setA (h : Footprint kept p q s t) (v : Byte) : Footprint kept p q s (t.setA v) := { h with }

theorem setX (h : Footprint kept p q s t) (x : Regs) : Footprint kept p q s (t.setX x) := { h with }

theorem setF (h : Footprint kept p q s t) (f : FRegs) : Footprint kept p q s (t.setF f) := { h with }

theorem setSp (h : Footprint kept p q s t) (v : Word) : Footprint kept v q s (t.setSp v) := { h with sp_eq := rfl }

theorem setStatus (h : Footprint kept p q s t) (v : Status) : Footprint kept p v s (t.setStatus v) :=
  { h with status_eq := rfl }

theorem setMem (h : Footprint kept p q s t) {m : Memory} (hm : t.mem.wf → m.wf) :
    Footprint kept p q s (t.setMem m) := { h with mem_wf := hm ∘ h.mem_wf }

theorem setFlag (h : Footprint kept p q s t) {f : Flags} (hf : KeepsFlags kept t.flag f) :
    Footprint kept p q s (t.setFlag f) := { h with flags := h.flags.trans hf }

end Footprint

/-! ## The flags an operation keeps -/

theorem addFlags_keeps {w : Nat} (a b : BitVec w) (cin : Bool) (f : Flags) :
    KeepsFlags [.i, .t] f (addFlags a b cin f).2 := by
  simp [KeepsFlags, flagOf, addFlags, Flags.szp]

theorem subFlags_keeps {w : Nat} (a b : BitVec w) (bin : Bool) (f : Flags) :
    KeepsFlags [.i, .t] f (subFlags a b bin f).2 := by
  simp [KeepsFlags, flagOf, subFlags, Flags.szp]

theorem szp_keeps {w : Nat} (f : Flags) (res : BitVec w) : KeepsFlags [.v, .i, .t, .h, .c] f (f.szp res) := by
  simp [KeepsFlags, flagOf, Flags.szp]

theorem shifted_keeps {w : Nat} (res : BitVec w) (out : Bool) (f : Flags) :
    KeepsFlags [.v, .i, .t, .h] f (shifted res out f).2 := by
  simp [KeepsFlags, flagOf, shifted, Flags.szp]

theorem floatCompare_keeps (f : Flags) (r : FloatOrder) : KeepsFlags [.i, .t, .p, .h, .c] f (f.floatCompare r) := by
  cases r <;> simp [KeepsFlags, flagOf, Flags.floatCompare]

theorem setI_keeps (f : Flags) (v : Bool) : KeepsFlags [.s, .z, .v, .t, .p, .h, .c] f { f with i := v } := by
  simp [KeepsFlags, flagOf]

theorem setT_keeps (f : Flags) (v : Bool) : KeepsFlags [.s, .z, .v, .i, .p, .h, .c] f { f with t := v } := by
  simp [KeepsFlags, flagOf]

/-! ## The shared operations -/

section Shapes

variable {kept : List FlagName} {p : Word} {q : Status} {s t : State}

theorem memWrite8_footprint (h : Footprint kept p q s t) (a : Word) (v : Byte) :
    Answers (Footprint kept p q s) (memWrite8 a v t) :=
  .afterAny fun _ => .next (h.setMem (Memory.write_wf a v))

theorem memWrite16_footprint (h : Footprint kept p q s t) (a v : Word) :
    Answers (Footprint kept p q s) (memWrite16 a v t) :=
  .afterAny fun _ => .next (h.setMem (State.withWord_wf a v))

theorem op8Write_footprint (h : Footprint kept p q s t) (r : Reg8) (v : Byte) :
    Answers (Footprint kept p q s) (op8Write r v t) := by
  intro u hu
  obtain ⟨hframe, hwf⟩ := op8Write_next hu
  rw [hframe]
  exact { h with mem_wf := hwf ∘ h.mem_wf }

theorem push8_footprint (v : Byte) (s : State) :
    Answers (Footprint kept (s.sp - 1#16) s.status s) (push8 v s) :=
  memWrite8_footprint (Footprint.refl.setSp _) _ _

theorem pull8_footprint (s : State) :
    Answers (fun r => Footprint kept (s.sp + 1#16) s.status s r.2) (pull8 s) :=
  .afterAny fun _ => .next (Footprint.refl.setSp _)

theorem push16_footprint (v : Word) (s : State) :
    Answers (Footprint kept (s.sp - 2#16) s.status s) (push16 v s) :=
  memWrite16_footprint (Footprint.refl.setSp _) _ _

theorem pull16_footprint (s : State) :
    Answers (fun r => Footprint kept (s.sp + 2#16) s.status s r.2) (pull16 s) :=
  .afterAny fun _ => .next (Footprint.refl.setSp _)

/-- R500: of a trap's flags only I changes. -/
theorem trap_footprint (k : TrapKind) (s : State) :
    Answers (Footprint [.s, .z, .v, .t, .p, .h, .c] (s.sp - 2#16) .running s) (trap k s) := by
  unfold trap
  cases vectorOf s.cfg k with
  | none => exact .fault
  | some v =>
    exact (push16_footprint _ s).andThen fun t ht => .next (((ht.setFlag (setI_keeps t.flag _)).setPc v).setStatus _)

theorem returnFromTrap_footprint (s : State) :
    Answers (Footprint [.s, .z, .v, .t, .p, .h, .c] (s.sp + 2#16) s.status s) (returnFromTrap s) :=
  (pull16_footprint s).andThen fun r hr => .next ((hr.setPc r.1).setFlag (setI_keeps r.2.flag _))

theorem jumpIf_footprint (taken : Bool) (k : Word) (s : State) :
    Answers (Footprint kept s.sp s.status s) (jumpIf taken k s) := by
  cases taken with
  | true => exact .next (Footprint.refl.setPc _)
  | false => exact .next (Footprint.refl.advance _)

/-- R318, R495: a trap with I = 1, and with I = 0 the next instruction. -/
theorem execIrq_footprint (s : State) :
    Answers (Footprint [.s, .z, .v, .t, .p, .h, .c] (if s.flag.i then s.sp - 2#16 else s.sp)
      (if s.flag.i then .running else s.status) s) (execIrq s) := by
  unfold execIrq
  split
  · exact trap_footprint .irq s
  · exact .next (Footprint.refl.advance _)

/-! ### Instructions on A -/

theorem alu8_footprint {op : Op2 8} (hop : ∀ a b f, KeepsFlags kept f (op a b f).2) (b : Byte) (n : Word) (s : State) :
    Footprint kept s.sp s.status s (alu8 op b n s) :=
  ((Footprint.refl.setA (op s.a b s.flag).1).setFlag (hop s.a b s.flag)).advance n

theorem alu8Const_footprint {op : Op2 8} (hop : ∀ a b f, KeepsFlags kept f (op a b f).2) (k : Byte) (s : State) :
    Answers (Footprint kept s.sp s.status s) (alu8Const op k s) :=
  .next (alu8_footprint hop k _ s)

theorem alu8Reg_footprint {op : Op2 8} (hop : ∀ a b f, KeepsFlags kept f (op a b f).2) (r : Reg8) (s : State) :
    Answers (Footprint kept s.sp s.status s) (alu8Reg op r s) :=
  .afterAny fun b => .next (alu8_footprint hop b _ s)

theorem compare8_footprint (b : Byte) (n : Word) (s : State) :
    Footprint [.i, .t] s.sp s.status s (compare8 b n s) :=
  (Footprint.refl.setFlag (subFlags_keeps s.a b _ _)).advance n

theorem compare8Reg_footprint (r : Reg8) (s : State) :
    Answers (Footprint [.i, .t] s.sp s.status s) (compare8Reg r s) :=
  .afterAny fun b => .next (compare8_footprint b _ s)

theorem accOp_footprint {op : Op1 8} (hop : ∀ a f, KeepsFlags kept f (op a f).2) (s : State) :
    Answers (Footprint kept s.sp s.status s) (accOp op s) :=
  .next (((Footprint.refl.setA (op s.a s.flag).1).setFlag (hop s.a s.flag)).advance _)

theorem swapA_footprint (r : Reg8) (s : State) : Answers (Footprint kept s.sp s.status s) (swapA r s) :=
  .afterAny fun _ => (op8Write_footprint .refl r s.a).andThen fun _ ht => .next ((ht.setA _).advance _)

theorem loadA_footprint (r : Reg8) (s : State) : Answers (Footprint kept s.sp s.status s) (loadA r s) :=
  .afterAny fun _ => .next ((Footprint.refl.setA _).advance _)

theorem storeA_footprint (r : Reg8) (s : State) : Answers (Footprint kept s.sp s.status s) (storeA r s) :=
  (op8Write_footprint .refl r s.a).andThen fun _ ht => .next (ht.advance _)

theorem pullReg8_footprint (r : Reg8) (s : State) :
    Answers (Footprint kept (s.sp + 1#16) s.status s) (pullReg8 r s) :=
  (pull8_footprint s).andThen fun v hv => (op8Write_footprint hv r v.1).andThen fun _ ht => .next (ht.advance _)

theorem pushReg8_footprint (r : Reg8) (s : State) :
    Answers (Footprint kept (s.sp - 1#16) s.status s) (pushReg8 r s) :=
  .afterAny fun v => (push8_footprint v s).andThen fun _ ht => .next (ht.advance _)

/-! ### Instructions on 16-bit and float registers -/

theorem toReg_footprint (x : Regs) (n : Word) (s : State) :
    Footprint kept s.sp s.status s ((s.setX x).advance n) := (Footprint.refl.setX x).advance n

theorem word2_footprint {op : Op2 16} (hop : ∀ a b f, KeepsFlags kept f (op a b f).2) (rd : Reg16) (b n : Word)
    (s : State) : Footprint kept s.sp s.status s (word2 op rd b n s) :=
  ((Footprint.refl.setX (s.x.set rd (op (s.x.get rd) b s.flag).1)).setFlag (hop (s.x.get rd) b s.flag)).advance n

theorem word1_footprint {op : Op1 16} (hop : ∀ a f, KeepsFlags kept f (op a f).2) (r : Reg16) (s : State) :
    Answers (Footprint kept s.sp s.status s) (.next (word1 op r s)) :=
  .next (((Footprint.refl.setX (s.x.set r (op (s.x.get r) s.flag).1)).setFlag (hop (s.x.get r) s.flag)).advance _)

theorem compare16_footprint (a b n : Word) (s : State) : Footprint [.i, .t] s.sp s.status s (compare16 a b n s) :=
  (Footprint.refl.setFlag (subFlags_keeps a b _ _)).advance n

theorem divide_footprint {op : Bool → Op2 16} (hop : ∀ d a b f, KeepsFlags kept f (op d a b f).2) (rd : Reg16)
    (b n : Word) (s : State) : Answers (Footprint kept s.sp s.status s) (divide op rd b n s) := by
  unfold divide
  split
  · exact .fault
  · exact .next (word2_footprint (hop _) rd b n s)

theorem Footprint.floatTo (h : Footprint kept p q s t) (r : FReg) (v n : Word) :
    Footprint kept p q s (floatTo r v n t) := (h.setF _).advance n

theorem compareFloat_footprint (a b n : Word) (s : State) :
    Footprint [.i, .t, .p, .h, .c] s.sp s.status s (compareFloat a b n s) :=
  (Footprint.refl.setFlag (floatCompare_keeps s.flag _)).advance n

theorem exchangeGeneral_footprint (s : State) : Footprint [] s.sp s.status s (exchangeGeneral s) :=
  ⟨rfl, rfl, rfl, rfl, fun _ h => absurd h List.not_mem_nil, id⟩

end Shapes

/-! ## Every instruction -/

/-- What each instruction leaves alone, by the shape of its meaning. -/
theorem exec_footprint (i : Instr) (s : State) :
    Answers (Footprint (flagsKept i) (spAfter i s) (statusAfter i s) s) (exec i s) := by
  unfold exec
  cases i with
  | nop => exact .next (Footprint.refl.advance _)
  | hlt | wfi => exact .next ((Footprint.refl.advance _).setStatus _)
  | sfi | cfi => exact .next ((Footprint.refl.setFlag (setI_keeps s.flag _)).advance _)
  | sft | cft => exact .next ((Footprint.refl.setFlag (setT_keeps s.flag _)).advance _)
  | exr => exact .next ((exchangeGeneral_footprint s).advance _)
  | exf => exact .next ⟨rfl, rfl, rfl, rfl, .refl, id⟩
  | swh | swl | swb | swc | swd | swe | swm => exact swapA_footprint _ s
  | lda => exact .afterAny fun _ => .next ((Footprint.refl.setA _).advance _)
  | sta => exact (memWrite8_footprint .refl _ _).andThen fun _ ht => .next (ht.advance _)
  | tri => exact .next ((Footprint.refl.setA _).advance _)
  | tha | tla | tba | tca | tda | tea | tma => exact loadA_footprint _ s
  | tah | tal | tab | tac | tad | tae | tam => exact storeA_footprint _ s
  | pla | plh | pll | plb | plc | pld | ple | plm => exact pullReg8_footprint _ s
  | pha | phh | phl | phb | phc | phd | phe | phm => exact pushReg8_footprint _ s
  | lrK | ldmRm | trR => exact .afterAny fun _ => .next (toReg_footprint _ _ s)
  | srK | stmMr | sfk => exact (memWrite16_footprint .refl _ _).andThen fun _ ht => .next (ht.advance _)
  | pshR | pshF => exact (push16_footprint _ s).andThen fun _ ht => .next (ht.advance _)
  | pulR => exact (pull16_footprint s).andThen fun _ hr => .next ((hr.setX _).advance _)
  | pulF => exact (pull16_footprint s).andThen fun _ hr => .next (hr.floatTo _ _ _)
  | tRr | tFr => exact (op8Write_footprint .refl _ _).andThen fun _ ht => .next (ht.advance _)
  | tRR | tFR | swpRr | tpc | traRk => exact .next (toReg_footprint _ _ s)
  | lfk | trF => exact .afterAny fun _ => .next (Footprint.refl.floatTo _ _ _)
  | tFF | tRF | traFk | addFf | mulFf | subFf | divFf | modFf | powFf | addFk | mulFk | subFk | divFk | modFk
  | inv | srt | irt | sin | cos | tan | abs | negF => exact .next (Footprint.refl.floatTo _ _ _)
  | swpFf => exact .next ((Footprint.refl.setF _).advance _)
  | swpFk =>
    exact .afterAny fun _ => (memWrite16_footprint .refl _ _).andThen fun _ ht => .next (ht.floatTo _ _ _)
  | cmpFf | cmpFk => exact .next (compareFloat_footprint _ _ _ s)
  | jsc | jzc | jvc | jic | jtc | jpc | jhc | jcc | jss | jzs | jvs | jis | jts | jps | jhs | jcs
  | jne | jeq | jlt | jle | jgt | jge => exact jumpIf_footprint _ _ s
  | jmp => exact .next (Footprint.refl.setPc _)
  | jmm => exact .afterAny fun _ => .next (Footprint.refl.setPc _)
  | jsr => exact (push16_footprint _ s).andThen fun _ ht => .next (ht.setPc _)
  | jsm => exact .afterAny fun _ => (push16_footprint _ s).andThen fun _ ht => .next (ht.setPc _)
  | ret => exact (pull16_footprint s).andThen fun _ hr => .next (hr.setPc _)
  | rfi => exact returnFromTrap_footprint s
  | nmi | trp => exact trap_footprint _ s
  | irq => exact execIrq_footprint s
  | adi | aci => exact alu8Const_footprint (fun a b _ => addFlags_keeps a b _ _) _ s
  | sui | sci => exact alu8Const_footprint (fun a b _ => subFlags_keeps a b _ _) _ s
  | ani | ori | xri => exact alu8Const_footprint (fun _ _ f => szp_keeps f _) _ s
  | adh | adl | adb | adc | add | ade | adm | ach | acl | acb | acc | acd | ace | acm =>
    exact alu8Reg_footprint (fun a b _ => addFlags_keeps a b _ _) _ s
  | suh | sul | sub | suc | sud | sue | sum | sch | scl | scb | scc | scd | sce | scm =>
    exact alu8Reg_footprint (fun a b _ => subFlags_keeps a b _ _) _ s
  | anh | anl | anb | anc | and | ane | anm | orh | orl | orb | orc | ord | ore | orm
  | xrh | xrl | xrb | xrc | xrd | xre | xrm => exact alu8Reg_footprint (fun _ _ f => szp_keeps f _) _ s
  | cpi => exact .next (compare8_footprint _ _ s)
  | cph | cpl | cpb | cpc | cpd | cpe | cpm => exact compare8Reg_footprint _ s
  | asl | asr | rol | ror => exact accOp_footprint (fun _ f => shifted_keeps _ _ f) s
  | com => exact accOp_footprint (fun _ f => szp_keeps f _) s
  | neg => exact accOp_footprint (fun a f => subFlags_keeps _ a _ f) s
  | addRr | adcRr | addRk | adcRk => exact .next (word2_footprint (fun a b _ => addFlags_keeps a b _ _) _ _ _ s)
  | subRr | sbcRr | subRk | sbcRk => exact .next (word2_footprint (fun a b _ => subFlags_keeps a b _ _) _ _ _ s)
  | andRr | orrRr | xorRr | mulRr | andRk | orrRk | xorRk | muk =>
    exact .next (word2_footprint (fun _ _ f => szp_keeps f _) _ _ _ s)
  | divRr | dik | modRr | mok => exact divide_footprint (fun _ _ _ f => szp_keeps f _) _ _ _ s
  | cmpRr | cmpRk => exact .next (compare16_footprint _ _ _ s)
  | aslR | asrR | rolR | rorR => exact word1_footprint (fun _ f => shifted_keeps _ _ f) _ s
  | comR => exact word1_footprint (fun _ f => szp_keeps f _) _ s
  | negR => exact word1_footprint (fun a f => subFlags_keeps _ a _ f) _ s
  | bds => exact .refused

/-! ## Every step -/

/-- What a step can do: pass the boundary while waiting, take an external request, or run the instruction at pc; each
from the state with the boundary passed. -/
theorem step_cases {s t : State} (h : step s = .next t) :
    t = passBoundary s ∨ (∃ k, trap k (passBoundary s) = .next t) ∨ ∃ i, exec i (passBoundary s) = .next t := by
  unfold step at h
  split at h
  · cases h
  · split at h
    · next k _ => exact .inr (.inl ⟨k, h⟩)
    · exact .inl (Host.Outcome.next.inj h).symm
  · split at h
    · next k _ => exact .inr (.inl ⟨k, h⟩)
    · obtain ⟨i, -, hi⟩ := andThen_eq_next.1 h
      exact .inr (.inr ⟨i, hi⟩)

end Sys2Proof.Proofs

/-! SUPPORT. What an instruction cannot see: other contents put where it neither reads nor writes pass through it. -/
namespace Sys2Proof.Proofs

open Machine Claims

/-! ## Answers with a changed state -/

section OnNext

variable {α : Type}

@[simp] theorem onNext_next (g : State → State) (t : State) : onNext g (.next t) = .next (g t) := rfl

@[simp] theorem onNext_andThen (g : State → State) (r : Res α) (k : α → Res State) :
    onNext g (andThen r k) = andThen r fun a => onNext g (k a) := by
  cases r <;> rfl

@[simp] theorem andThen_onNext (g : State → State) (r : Res State) (k : State → Res α) :
    andThen (onNext g r) k = andThen r fun t => k (g t) := by
  cases r <;> rfl

/-- Two changes that agree on what is answered. -/
theorem onNext_congr {g g' : State → State} {r : Res State} (h : Answers (fun t => g t = g' t) r) :
    onNext g r = onNext g' r := by
  cases r with
  | next t => exact congrArg _ (h t rfl)
  | fault | refused => rfl

end OnNext

/-! ## Alterations -/

/-- A change of T, of the register files and of the shadow set, each on its own. -/
structure Alteration where
  t : Bool → Bool := id
  x : Regs → Regs := id
  f : FRegs → FRegs := id
  shadowA : Byte → Byte := id
  shadowFlag : Flags → Flags := id
  shadowX : Regs → Regs := id
  shadowF : FRegs → FRegs := id

namespace Alteration

variable (d : Alteration)

/-- FLAG with its T changed. -/
def flag (f : Flags) : Flags := { f with t := d.t f.t }

/-- The state with its contents changed. -/
def on (s : State) : State :=
  { s with
    flag := d.flag s.flag
    x := d.x s.x
    f := d.f s.f
    shadowA := d.shadowA s.shadowA
    shadowFlag := d.shadowFlag s.shadowFlag
    shadowX := d.shadowX s.shadowX
    shadowF := d.shadowF s.shadowF }

/-- The change does not reach the register: it reads the same, and is written the same. -/
structure Spares (r : Reg16) : Prop where
  get : ∀ x, (d.x x).get r = x.get r
  set : ∀ x v, d.x (x.set r v) = (d.x x).set r v

/-- The change reaches no float register. -/
def SparesFloats : Prop := ∀ f, d.f f = f

/-- An operation computes the same with T changed, and leaves it changed. -/
def Passes1 {w : Nat} (op : Op1 w) : Prop := ∀ a f, op a (d.flag f) = ((op a f).1, d.flag (op a f).2)

/-- The same of two operands. -/
def Passes2 {w : Nat} (op : Op2 w) : Prop := ∀ a b f, op a b (d.flag f) = ((op a b f).1, d.flag (op a b f).2)

/-! ### What an altered state holds, and how updates pass -/

section Fields

variable (s : State)

@[simp] theorem on_cfg : (d.on s).cfg = s.cfg := rfl
@[simp] theorem on_pc : (d.on s).pc = s.pc := rfl
@[simp] theorem on_sp : (d.on s).sp = s.sp := rfl
@[simp] theorem on_a : (d.on s).a = s.a := rfl
@[simp] theorem on_flag : (d.on s).flag = d.flag s.flag := rfl
@[simp] theorem on_x : (d.on s).x = d.x s.x := rfl
@[simp] theorem on_f : (d.on s).f = d.f s.f := rfl
@[simp] theorem on_mem : (d.on s).mem = s.mem := rfl
@[simp] theorem on_setPc (v : Word) : (d.on s).setPc v = d.on (s.setPc v) := rfl
@[simp] theorem on_setSp (v : Word) : (d.on s).setSp v = d.on (s.setSp v) := rfl
@[simp] theorem on_setA (v : Byte) : (d.on s).setA v = d.on (s.setA v) := rfl
@[simp] theorem on_setFlag (f : Flags) : (d.on s).setFlag (d.flag f) = d.on (s.setFlag f) := rfl
@[simp] theorem on_setX (x : Regs) : (d.on s).setX (d.x x) = d.on (s.setX x) := rfl
@[simp] theorem on_setF (f : FRegs) : (d.on s).setF (d.f f) = d.on (s.setF f) := rfl
@[simp] theorem on_setStatus (v : Status) : (d.on s).setStatus v = d.on (s.setStatus v) := rfl
@[simp] theorem on_setMem (v : Memory) : (d.on s).setMem v = d.on (s.setMem v) := rfl
@[simp] theorem on_advance (n : Word) : (d.on s).advance n = d.on (s.advance n) := rfl
@[simp] theorem on_setI (v : Bool) : (d.on s).setI v = d.on (s.setI v) := rfl
@[simp] theorem on_wordAt (a : Word) : (d.on s).wordAt a = s.wordAt a := rfl
@[simp] theorem on_withWord (a v : Word) : (d.on s).withWord a v = s.withWord a v := rfl

end Fields

variable {d} (s : State)

/-- HL is R0 (R36). -/
theorem Spares.hl (h : d.Spares .r0) : (d.on s).hl = s.hl := h.get s.x

/-- A register that is spared is written the same. -/
theorem Spares.setX_set {r : Reg16} (h : d.Spares r) (v : Word) :
    (d.on s).setX ((d.x s.x).set r v) = d.on (s.setX (s.x.set r v)) := by
  rw [← h.set, on_setX]

theorem SparesFloats.get (h : d.SparesFloats) (r : FReg) : (d.on s).f.get r = s.f.get r :=
  congrArg (FRegs.get · r) (h s.f)

/-- The float registers, where they are spared, are written the same. -/
theorem SparesFloats.setF (h : d.SparesFloats) (f : FRegs) : (d.on s).setF f = d.on (s.setF f) := by
  rw [← on_setF, h]

/-- T, where it is spared, is written the same. -/
theorem on_setT (h : d.t = id) (v : Bool) : (d.on s).setT v = d.on (s.setT v) := by
  have hflag : d.flag { s.flag with t := v } = { d.flag s.flag with t := v } := by simp [flag, h]
  simp only [State.setT, ← on_setFlag, hflag, on_flag]

end Alteration

/-! ## The shared operations -/

/-- The register that holds an 8-bit operand, or for M its address (R40). A is in none; R0, which every variant has,
stands for it. -/
def pairOf (r : Reg8) : Reg16 :=
  match r with
  | .a | .h | .l | .m => .r0
  | .b | .c => .r1
  | .d | .e => .r2

/-- A word with the half that is the 8-bit register replaced. -/
def putHalf (r : Reg8) (v : Byte) (w : Word) : Word :=
  match r with
  | .h | .b | .d => wordOf v (loByte w)
  | .l | .c | .e | .a | .m => wordOf (hiByte w) v

/-- A write of an 8-bit register is a write of its pair (R40). -/
theorem op8Write_half {r : Reg8} (ha : r ≠ .a) (hm : r ≠ .m) (v : Byte) (s : State) :
    op8Write r v s = .next (s.setX (s.x.set (pairOf r) (putHalf r v (s.x.get (pairOf r))))) := by
  cases r with
  | a => exact absurd rfl ha
  | m => exact absurd rfl hm
  | h | l | b | c | d | e => rfl

section Shapes

variable {d : Alteration} (s : State)

@[simp] theorem memRead8_on (a : Word) : memRead8 a (d.on s) = memRead8 a s := rfl

@[simp] theorem memRead16_on (a : Word) : memRead16 a (d.on s) = memRead16 a s := rfl

@[simp] theorem memWrite8_on (a : Word) (v : Byte) : memWrite8 a v (d.on s) = onNext d.on (memWrite8 a v s) := by
  simp [memWrite8]

@[simp] theorem memWrite16_on (a v : Word) : memWrite16 a v (d.on s) = onNext d.on (memWrite16 a v s) := by
  simp [memWrite16]

@[simp] theorem push8_on (v : Byte) : push8 v (d.on s) = onNext d.on (push8 v s) := by simp [push8]

@[simp] theorem push16_on (v : Word) : push16 v (d.on s) = onNext d.on (push16 v s) := by simp [push16]

/-- A byte is pulled the same, and the state after it is the altered one. -/
@[simp] theorem andThen_pull8_on {α : Type} (k : Byte × State → Res α) :
    andThen (pull8 (d.on s)) k = andThen (pull8 s) fun p => k (p.1, d.on p.2) := by
  unfold pull8
  rw [memRead8_on, Alteration.on_sp]
  cases memRead8 s.sp s <;> rfl

/-- A word is pulled the same, and the state after it is the altered one. -/
@[simp] theorem andThen_pull16_on {α : Type} (k : Word × State → Res α) :
    andThen (pull16 (d.on s)) k = andThen (pull16 s) fun p => k (p.1, d.on p.2) := by
  unfold pull16
  rw [memRead16_on, Alteration.on_sp]
  cases memRead16 s.sp s <;> rfl

theorem op8Read_on {r : Reg8} (h : d.Spares (pairOf r)) : op8Read r (d.on s) = op8Read r s := by
  have hget := h.get s.x
  cases r with
  | a => rfl
  | m => exact congrArg (memRead8 · s) hget
  | h | b | d => exact congrArg (Host.Outcome.next ∘ hiByte) hget
  | l | c | e => exact congrArg (Host.Outcome.next ∘ loByte) hget

theorem op8Write_on {r : Reg8} (h : d.Spares (pairOf r)) (v : Byte) :
    op8Write r v (d.on s) = onNext d.on (op8Write r v s) := by
  by_cases hr : r = .a ∨ r = .m
  · obtain rfl | rfl := hr
    · rfl
    · exact (congrArg (memWrite8 · v (d.on s)) (h.get s.x)).trans (memWrite8_on s _ v)
  · obtain ⟨ha, hm⟩ := not_or.1 hr
    rw [op8Write_half ha hm, op8Write_half ha hm, Alteration.on_x, h.get, h.setX_set, onNext_next]

theorem jumpIf_on (taken : Bool) (k : Word) : jumpIf taken k (d.on s) = onNext d.on (jumpIf taken k s) := by
  cases taken <;> rfl

theorem targetM_on (h : d.Spares .r0) : targetM (d.on s) = targetM s := by
  simp [targetM, h.hl s]

theorem trap_on (k : TrapKind) : trap k (d.on s) = onNext d.on (trap k s) := by
  have hret : returnAddress k (d.on s) = returnAddress k s := by cases k <;> rfl
  unfold trap
  rw [Alteration.on_cfg]
  cases vectorOf s.cfg k with
  | none => rfl
  | some v => simp [hret]

theorem returnFromTrap_on : returnFromTrap (d.on s) = onNext d.on (returnFromTrap s) := by
  simp [returnFromTrap]

theorem execIrq_on : execIrq (d.on s) = onNext d.on (execIrq s) := by
  unfold execIrq
  rw [Alteration.on_flag]
  cases hi : s.flag.i <;> simp [Alteration.flag, hi, trap_on]

/-! ### Instructions on A -/

theorem alu8_on {op : Op2 8} (hop : d.Passes2 op) (b : Byte) (n : Word) :
    alu8 op b n (d.on s) = d.on (alu8 op b n s) := by
  simp [alu8, hop s.a b s.flag]

theorem alu8Const_on {op : Op2 8} (hop : d.Passes2 op) (k : Byte) :
    alu8Const op k (d.on s) = onNext d.on (alu8Const op k s) := by
  simp [alu8Const, alu8_on s hop]

theorem alu8Reg_on {op : Op2 8} (hop : d.Passes2 op) {r : Reg8} (h : d.Spares (pairOf r)) :
    alu8Reg op r (d.on s) = onNext d.on (alu8Reg op r s) := by
  simp [alu8Reg, op8Read_on s h, alu8_on s hop]

theorem opSub_passes {w : Nat} : d.Passes2 (opSub (w := w)) := fun _ _ _ => rfl

theorem compare8_on (b : Byte) (n : Word) : compare8 b n (d.on s) = d.on (compare8 b n s) := by
  simp [compare8, opSub_passes s.a b s.flag]

theorem compare8Const_on (k : Byte) : compare8Const k (d.on s) = onNext d.on (compare8Const k s) := by
  simp [compare8Const, compare8_on]

theorem compare8Reg_on {r : Reg8} (h : d.Spares (pairOf r)) :
    compare8Reg r (d.on s) = onNext d.on (compare8Reg r s) := by
  simp [compare8Reg, op8Read_on s h, compare8_on]

theorem accOp_on {op : Op1 8} (hop : d.Passes1 op) : accOp op (d.on s) = onNext d.on (accOp op s) := by
  simp [accOp, hop s.a s.flag]

theorem swapA_on {r : Reg8} (h : d.Spares (pairOf r)) : swapA r (d.on s) = onNext d.on (swapA r s) := by
  simp [swapA, op8Read_on s h, op8Write_on s h]

theorem loadA_on {r : Reg8} (h : d.Spares (pairOf r)) : loadA r (d.on s) = onNext d.on (loadA r s) := by
  simp [loadA, op8Read_on s h]

theorem storeA_on {r : Reg8} (h : d.Spares (pairOf r)) : storeA r (d.on s) = onNext d.on (storeA r s) := by
  simp [storeA, op8Write_on s h]

theorem pullReg8_on {r : Reg8} (h : d.Spares (pairOf r)) : pullReg8 r (d.on s) = onNext d.on (pullReg8 r s) := by
  simp [pullReg8, op8Write_on _ h]

theorem pushReg8_on {r : Reg8} (h : d.Spares (pairOf r)) : pushReg8 r (d.on s) = onNext d.on (pushReg8 r s) := by
  simp [pushReg8, op8Read_on s h]

/-! ### Instructions on 16-bit and float registers -/

variable {b b' : Word} (n : Word)

theorem word2_on {op : Op2 16} (hop : d.Passes2 op) {rd : Reg16} (h : d.Spares rd) (hb : b' = b) :
    word2 op rd b' n (d.on s) = d.on (word2 op rd b n s) := by
  simp [word2, hb, h.get, h.setX_set, hop (s.x.get rd) b s.flag]

theorem word1_on {op : Op1 16} (hop : d.Passes1 op) {r : Reg16} (h : d.Spares r) :
    word1 op r (d.on s) = d.on (word1 op r s) := by
  simp [word1, h.get, h.setX_set, hop (s.x.get r) s.flag]

theorem compare16_on {rd : Reg16} (h : d.Spares rd) (hb : b' = b) :
    compare16 ((d.on s).x.get rd) b' n (d.on s) = d.on (compare16 (s.x.get rd) b n s) := by
  simp [compare16, hb, h.get, opSub_passes (s.x.get rd) b s.flag]

theorem divide_on {op : Bool → Op2 16} (hop : ∀ g, d.Passes2 (op g)) {rd : Reg16} (h : d.Spares rd) (hb : b' = b) :
    divide op rd b' n (d.on s) = onNext d.on (divide op rd b n s) := by
  subst hb
  unfold divide
  split
  · rfl
  · exact congrArg _ (word2_on s n (hop _) h rfl)

theorem floatTo_on (h : d.SparesFloats) (r : FReg) (hb : b' = b) :
    floatTo r b' n (d.on s) = d.on (floatTo r b n s) := by
  simp [floatTo, hb, h s.f, h.setF]

theorem float2_on (h : d.SparesFloats) (fn : Word → Word → Word) (r : FReg) (hb : b' = b) :
    float2 fn r b' n (d.on s) = d.on (float2 fn r b n s) :=
  floatTo_on s n h r (by rw [Alteration.on_f, h, hb])

theorem compareFloat_on (h : d.SparesFloats) (r : FReg) (hb : b' = b) :
    compareFloat ((d.on s).f.get r) b' n (d.on s) = d.on (compareFloat (s.f.get r) b n s) := by
  have hflag (o : FloatOrder) : (d.flag s.flag).floatCompare o = d.flag (s.flag.floatCompare o) := by
    cases o <;> rfl
  simp [compareFloat, hb, h s.f, hflag]

end Shapes

/-! ## Every instruction -/

/-- The instruction neither tests T nor writes it (R35). -/
def IgnoresT (i : Instr) : Prop := i ≠ .sft ∧ i ≠ .cft ∧ ∀ k, i ≠ .jts k ∧ i ≠ .jtc k

theorem present_of_v80142 (r : Reg16) : Reg16.present .v80142 r = true := by cases r <;> rfl

theorem present_of_v80143 (r : Reg16) : Reg16.present .v80143 r = true := by cases r <;> rfl

/-- Noninterference, by the shape of each meaning: under an alteration that spares every register of the instruction's
first variant, and spares T unless the instruction ignores it, the instruction does the same and leaves the alteration in
place. -/
theorem exec_on (d : Alteration) (i : Instr) (s : State)
    (hx : ∀ r, Reg16.present i.firstVariant r = true → d.Spares r)
    (hf : i.firstVariant = .v80143 → d.SparesFloats) (ht : d.t = id ∨ IgnoresT i) (hexr : i ≠ .exr) (hexf : i ≠ .exf) :
    exec i (d.on s) = onNext d.on (exec i s) := by
  unfold exec
  cases i with
  | exr => exact absurd rfl hexr
  | exf => exact absurd rfl hexf
  | nop | hlt | wfi | sfi | cfi | tri | jmp | bds => rfl
  | sft | cft =>
    have hid : d.t = id := ht.resolve_right (by simp [IgnoresT])
    exact congrArg (Host.Outcome.next <| State.advance · _) (d.on_setT s hid _)
  | jts k | jtc k =>
    have hid : d.t = id := ht.resolve_right (by simp [IgnoresT])
    have hget : (d.flag s.flag).get .t = s.flag.get .t := congrFun hid s.flag.t
    simp [execJts, execJtc, hget, jumpIf_on]
  | swh | swl | swb | swc | swd | swe | swm => exact swapA_on s (hx _ rfl)
  | lda => simp [execLda]
  | sta => simp [execSta]
  | tha | tla | tba | tca | tda | tea | tma => exact loadA_on s (hx _ rfl)
  | tah | tal | tab | tac | tad | tae | tam => exact storeA_on s (hx _ rfl)
  | pla | plh | pll | plb | plc | pld | ple | plm => exact pullReg8_on s (hx _ rfl)
  | pha | phh | phl | phb | phc | phd | phe | phm => exact pushReg8_on s (hx _ rfl)
  | adi | aci | sui | sci | ani | ori | xri => exact alu8Const_on s (fun _ _ _ => rfl) _
  | adh | adl | adb | adc | add | ade | adm | ach | acl | acb | acc | acd | ace | acm
  | suh | sul | sub | suc | sud | sue | sum | sch | scl | scb | scc | scd | sce | scm
  | anh | anl | anb | anc | and | ane | anm | orh | orl | orb | orc | ord | ore | orm
  | xrh | xrl | xrb | xrc | xrd | xre | xrm => exact alu8Reg_on s (fun _ _ _ => rfl) (hx _ rfl)
  | cpi => exact compare8Const_on s _
  | cph | cpl | cpb | cpc | cpd | cpe | cpm => exact compare8Reg_on s (hx _ rfl)
  | asl | asr | rol | ror | com | neg => exact accOp_on s (fun _ _ => rfl)
  | jsc | jzc | jvc | jic | jpc | jhc | jcc | jss | jzs | jvs | jis | jps | jhs | jcs
  | jne | jeq | jlt | jle | jgt | jge => exact jumpIf_on s _ _
  | jmm => simp [execJmm, targetM_on s (hx .r0 rfl)]
  | jsr => simp [execJsr]
  | jsm => simp [execJsm, targetM_on s (hx .r0 rfl)]
  | ret => simp [execRet]
  | rfi => exact returnFromTrap_on s
  | irq => exact execIrq_on s
  | nmi | trp => exact trap_on s _
  | lrK r => simp [execLrK, (hx r (present_of_v80142 r)).setX_set]
  | srK r => simp [execSrK, (hx r (present_of_v80142 r)).get]
  | pshR r => simp [execPshR, (hx r (present_of_v80142 r)).get]
  | pulR r => simp [execPulR, (hx r (present_of_v80142 r)).setX_set]
  | tRR rd rs => simp [execTRR, (hx rs (present_of_v80142 rs)).get, (hx rd (present_of_v80142 rd)).setX_set]
  | trR rd rs =>
    have hrd := hx rd (present_of_v80142 rd)
    simp [execTrR, op8Read_on s (hx _ (present_of_v80142 (pairOf rs))), hrd.get, hrd.setX_set]
  | tRr rd rs =>
    simp [execTRr, (hx rs (present_of_v80142 rs)).get, op8Write_on s (hx _ (present_of_v80142 (pairOf rd)))]
  | swpRr rd rs =>
    have hrd := hx rd (present_of_v80142 rd)
    have hrs := hx rs (present_of_v80142 rs)
    simp [execSwpRr, hrd.get, hrs.get, ← hrd.set, ← hrs.set]
  | tpc => exact congrArg _ (congrArg (State.advance · _) ((hx .r0 rfl).setX_set s s.pc))
  | stmMr r => simp [execStmMr, (hx .r0 rfl).hl s, (hx r (present_of_v80142 r)).get]
  | ldmRm r => simp [execLdmRm, (hx .r0 rfl).hl s, (hx r (present_of_v80142 r)).setX_set]
  | traRk r => simp [execTraRk, (hx r (present_of_v80142 r)).setX_set]
  | addRr rd rs | adcRr rd rs | subRr rd rs | sbcRr rd rs | andRr rd rs | orrRr rd rs | xorRr rd rs | mulRr rd rs =>
    exact congrArg _
      (word2_on s _ (fun _ _ _ => rfl) (hx rd (present_of_v80142 rd)) ((hx rs (present_of_v80142 rs)).get _))
  | addRk r | adcRk r | subRk r | sbcRk r | andRk r | orrRk r | xorRk r | muk r =>
    exact congrArg _ (word2_on s _ (fun _ _ _ => rfl) (hx r (present_of_v80142 r)) rfl)
  | divRr rd rs | modRr rd rs =>
    exact divide_on s _ (fun _ _ _ _ => rfl) (hx rd (present_of_v80142 rd)) ((hx rs (present_of_v80142 rs)).get _)
  | dik r | mok r => exact divide_on s _ (fun _ _ _ _ => rfl) (hx r (present_of_v80142 r)) rfl
  | cmpRr rd rs =>
    exact congrArg _ (compare16_on s _ (hx rd (present_of_v80142 rd)) ((hx rs (present_of_v80142 rs)).get _))
  | cmpRk r => exact congrArg _ (compare16_on s _ (hx r (present_of_v80142 r)) rfl)
  | aslR r | asrR r | rolR r | rorR r | comR r | negR r =>
    exact congrArg _ (word1_on s (fun _ _ => rfl) (hx r (present_of_v80142 r)))
  | lfk r => simp [execLfk, floatTo_on s _ (hf rfl) r rfl]
  | sfk r => simp [execSfk, hf rfl s.f]
  | pshF r => simp [execPshF, hf rfl s.f]
  | pulF r => simp [execPulF, floatTo_on _ _ (hf rfl) r rfl]
  | swpFk r => simp [execSwpFk, hf rfl s.f, floatTo_on _ _ (hf rfl) r rfl]
  | tFF rd rs => exact congrArg _ (floatTo_on s _ (hf rfl) rd ((hf rfl).get s rs))
  | tRF rd rs =>
    exact congrArg _ (floatTo_on s _ (hf rfl) rd (congrArg _ ((hx rs (present_of_v80143 rs)).get _)))
  | tFR rd rs => simp [execTFR, hf rfl s.f, (hx rd (present_of_v80143 rd)).setX_set]
  | trF rd rs =>
    simp [execTrF, op8Read_on s (hx _ (present_of_v80143 (pairOf rs))), hf rfl s.f, floatTo_on s _ (hf rfl) rd rfl]
  | tFr rd rs => simp [execTFr, hf rfl s.f, op8Write_on s (hx _ (present_of_v80143 (pairOf rd)))]
  | swpFf rd rs => simp [execSwpFf, hf rfl s.f, (hf rfl).setF]
  | addFf rd rs | mulFf rd rs | subFf rd rs | divFf rd rs | modFf rd rs | powFf rd rs =>
    exact congrArg _ (float2_on s _ (hf rfl) _ rd ((hf rfl).get s rs))
  | addFk r | mulFk r | subFk r | divFk r | modFk r => exact congrArg _ (float2_on s _ (hf rfl) _ r rfl)
  | cmpFf rd rs => exact congrArg _ (compareFloat_on s _ (hf rfl) rd ((hf rfl).get s rs))
  | cmpFk r => exact congrArg _ (compareFloat_on s _ (hf rfl) r rfl)
  | inv r | srt r | irt r | sin r | cos r | tan r | abs r | negF r =>
    exact congrArg _ (floatTo_on s _ (hf rfl) r (congrArg _ ((hf rfl).get s r)))
  | traFk r => exact congrArg _ (floatTo_on s _ (hf rfl) r rfl)

/-! ## The shadow set, T, and the registers a variant lacks -/

theorem hasReg_eq_present (v : Variant) (r : Reg16) : hasReg v r = Reg16.present v r := by
  cases v <;> cases r <;> rfl

theorem get_mixed (v : Variant) (own other : Regs) (r : Reg16) :
    (mixed v own other).get r = if hasReg v r then own.get r else other.get r := by
  cases r <;> rfl

/-- A larger variant has every register of a smaller one (R2). -/
theorem present_of_has {v first : Variant} {r : Reg16} (hv : v.has first = true) (hr : Reg16.present first r = true) :
    Reg16.present v r = true := by
  have trans {w : Variant} (h : first.has w = true) : v.has w = true :=
    decide_eq_true ((of_decide_eq_true h).trans (of_decide_eq_true hv))
  cases r with
  | r0 => rfl
  | r1 | r2 | r3 | r4 | r5 | r6 | r7 => exact trans hr

/-- Other contents in the shadow registers (R43): `withShadows`. -/
def shadowsChanged (a : Byte) (fl : Flags) (x : Regs) (f : FRegs) : Alteration where
  shadowA _ := a
  shadowFlag _ := fl
  shadowX _ := x
  shadowF _ := f

/-- Another T (R35): `withT`. -/
def tChanged (v : Bool) : Alteration where
  t _ := v

/-- An alteration that leaves the general registers alone spares each of them. -/
theorem spares_of_id {d : Alteration} (h : d.x = id) (r : Reg16) : d.Spares r :=
  ⟨fun x => by rw [h, id], fun x v => by rw [h, id, id]⟩

/-- Other contents in every register the variant lacks (R42): `withAbsent`. -/
def absentChanged (v : Variant) (x sx : Regs) (f sf : FRegs) : Alteration where
  x own := mixed v own x
  f own := if v = .v80143 then own else f
  shadowX own := mixed v own sx
  shadowF own := if v = .v80143 then own else sf

theorem absentChanged_on {v : Variant} (x sx : Regs) (f sf : FRegs) {s : State} (hv : s.cfg.variant = v) :
    (absentChanged v x sx f sf).on s = withAbsent x sx f sf s := by
  subst hv; rfl

theorem absentChanged_spares {v : Variant} (x sx : Regs) (f sf : FRegs) {r : Reg16} (hr : Reg16.present v r = true) :
    (absentChanged v x sx f sf).Spares r := by
  rw [← hasReg_eq_present] at hr
  refine ⟨fun own => (get_mixed v own x r).trans (if_pos hr), fun own w => Regs.ext_get fun q => ?_⟩
  simp only [absentChanged, get_mixed, Regs.get_set]
  by_cases hq : q = r
  · simp [hq, hr]
  · simp [hq]

/-- The exchange of EXR leaves what stands in the registers the variant lacks (R420). -/
theorem mixed_exchanged (v : Variant) (x y x' y' : Regs) :
    mixed v (Regs.exchanged v x y) x' = Regs.exchanged v (mixed v x x') (mixed v y y') := by
  apply Regs.ext_get
  intro r
  simp only [get_mixed, Regs.get_exchanged, hasReg_eq_present]
  split <;> rfl

theorem execExr_withAbsent (x sx : Regs) (f sf : FRegs) (s : State) :
    execExr (withAbsent x sx f sf s) = onNext (withAbsent x sx f sf) (execExr s) := by
  simp [execExr, exchangeGeneral, withAbsent, State.advance, State.setPc, mixed_exchanged s.cfg.variant _ _ x sx,
    mixed_exchanged s.cfg.variant _ _ sx x]

theorem execExf_withAbsent (x sx : Regs) (f sf : FRegs) {s : State} (hv : s.cfg.variant = .v80143) :
    execExf (withAbsent x sx f sf s) = onNext (withAbsent x sx f sf) (execExf s) := by
  simp [execExf, exchangeFloat, withAbsent, State.advance, State.setPc, hv]

/-! ## 8-bit operands -/

theorem op8Read_value8 {r : Reg8} {s : State} (h : readable8 r s) : op8Read r s = .next (value8 r s) := by
  cases r with
  | m => exact memRead8_eq_next.2 ⟨h rfl, rfl⟩
  | a | h | l | b | c | d | e => rfl

theorem op8Write_writes8 {r : Reg8} {v : Byte} {s t : State} (h : op8Write r v s = .next t) : Writes8 r v s t := by
  cases r with
  | m =>
    obtain ⟨-, rfl⟩ := memWrite8_eq_next.1 h
    exact ⟨fun b => Memory.read_write s.mem s.x.r0 b v, rfl⟩
  | a | h | l | b | c | d | e => exact (Host.Outcome.next.inj h).symm

theorem op8Write_completes {r : Reg8} {s : State} (h : writable8 r s) (v : Byte) : ∃ t, op8Write r v s = .next t := by
  cases r with
  | m => exact ⟨_, memWrite8_eq_next.2 ⟨h rfl, rfl⟩⟩
  | a | h | l | b | c | d | e => exact ⟨_, rfl⟩

@[simp] theorem high_cat (hi lo : Byte) : high (cat hi lo) = hi := hiByte_wordOf hi lo

@[simp] theorem low_cat (hi lo : Byte) : low (cat hi lo) = lo := loByte_wordOf hi lo

/-- A write of a register is read back, and the six others stand; M stands unless its address was written (R40). -/
theorem value8_of_writes8 {r : Reg8} {v : Byte} {s t : State} (h : Writes8 r v s t) (hr : r ≠ .m) :
    value8 r t = v ∧ ∀ q, q ≠ r → (q = .m → r ≠ .h ∧ r ≠ .l) → value8 q t = value8 q s := by
  cases r with
  | m => exact absurd rfl hr
  | a | h | l | b | c | d | e =>
    obtain rfl := h
    refine ⟨by simp [value8], fun q hq hm => ?_⟩
    cases q <;> simp_all [value8]

end Sys2Proof.Proofs

/-! PROOFS. The statements of spec/10_state.md. -/
namespace Sys2Proof.Settled

open Machine Claims Proofs

/-- Settles O13: each way a step can go keeps both fields of the state with the boundary passed. -/
theorem stepKeepsParameters : Obligations.StepKeepsParameters := by
  intro s t h
  rcases step_cases h with rfl | ⟨k, hk⟩ | ⟨i, hi⟩
  · exact ⟨rfl, rfl⟩
  · exact ⟨(trap_footprint k _ t hk).cfg_eq, (trap_footprint k _ t hk).events_eq⟩
  · exact ⟨(exec_footprint i _ t hi).cfg_eq, (exec_footprint i _ t hi).events_eq⟩

/-- Settles O14: the shadow registers are an alteration that spares all else. -/
theorem shadowRegistersOnlyExchanged : Obligations.ShadowRegistersOnlyExchanged := by
  intro i s a fl x f hexr hexf
  exact exec_on (shadowsChanged a fl x f) i s (fun r _ => spares_of_id rfl r) (fun _ _ => rfl) (.inl rfl) hexr hexf

/-- Settles O15: T is an alteration that spares every register; EXF, which `exec_on` leaves out, has no part in FLAG. -/
theorem trapFlagHasNoEffect : Obligations.TrapFlagHasNoEffect := by
  intro i s v hsft hcft hexr hj
  by_cases hexf : i = .exf
  · subst hexf; rfl
  · exact exec_on (tChanged v) i s (fun r _ => spares_of_id rfl r) (fun _ _ => rfl) (.inr ⟨hsft, hcft, hj⟩) hexr hexf

/-- Settles O16: the registers of a well-formed instruction are its variant's, so the absent ones are an alteration that
spares them; EXR and EXF exchange the present ones alone. -/
theorem absentRegistersDoNotExist : Obligations.AbsentRegistersDoNotExist := by
  intro i s x sx f sf hwf
  have hv : s.cfg.variant.has i.firstVariant = true := (Bool.and_eq_true_iff.1 hwf).1
  have hfloat (hi : i.firstVariant = .v80143) : s.cfg.variant = .v80143 := by
    rw [hi] at hv
    revert hv
    cases s.cfg.variant <;> decide
  by_cases hexr : i = .exr
  · subst hexr; exact execExr_withAbsent x sx f sf s
  by_cases hexf : i = .exf
  · subst hexf; exact execExf_withAbsent x sx f sf (hfloat rfl)
  have hcommutes := exec_on (absentChanged s.cfg.variant x sx f sf) i s
    (fun r hr => absentChanged_spares x sx f sf (present_of_has hv hr)) (fun hi _ => if_pos (hfloat hi)) (.inl rfl)
    hexr hexf
  rw [absentChanged_on x sx f sf rfl] at hcommutes
  rw [hcommutes]
  exact onNext_congr fun t ht => absentChanged_on x sx f sf (congrArg Config.variant (exec_footprint i s t ht).cfg_eq)

/-- Settles O17: `exec_footprint` names the flags of R46. -/
theorem flagsKept : Obligations.FlagsKept := fun i s t h => (exec_footprint i s t h).flags

/-- Settles O18: `exec_footprint` names SP and the run status. -/
theorem stackPointerAndStatus : Obligations.StackPointerAndStatus :=
  fun i s t h => ⟨(exec_footprint i s t h).sp_eq, (exec_footprint i s t h).status_eq⟩

/-- Settles O23: what an operand reads and what its write leaves; the halves of a written pair hold by definition. -/
theorem operandAccess : Obligations.OperandAccess := by
  intro r s
  refine ⟨op8Read_value8, fun v hw => ?_, fun v t ht hr => value8_of_writes8 (op8Write_writes8 ht) hr,
    fun v => ⟨rfl, rfl, rfl, rfl, rfl, rfl⟩⟩
  obtain ⟨t, ht⟩ := op8Write_completes hw v
  exact ⟨t, ht, op8Write_writes8 ht⟩

/-- Settles O11: nothing is loaded, and the empty list is canonical. -/
theorem resetMeetsInvariant : Obligations.ResetMeetsInvariant := Memory.wf_nil

end Sys2Proof.Settled

/-! SUPPORT. Memory: what an access comes to, what the primitives leave, and which bytes each instruction keeps. -/
namespace Sys2Proof.Proofs

open Machine Claims

/-! ## Accesses -/

theorem denied_iff {dir : Direction} {k : MemKind} :
    denied dir k = true ↔ k = .absent ∨ (k = .rom ∧ dir = .write) := by
  cases dir <;> cases k <;> decide

/-- R82, R83: an access is denied where one byte it touches is. -/
theorem claimsDenied_iff {cfg : Config} {q : Access} :
    Denied cfg q ↔ ∃ a ∈ q.touched, denied q.dir (memKind cfg a) = true := by
  simp only [Denied, denied_iff]

theorem access_of_claimsDenied {cfg : Config} {q : Access} (h : Denied cfg q) :
    access cfg q = .fault (.accessFault q) := by
  obtain ⟨a, ha, hd⟩ := claimsDenied_iff.1 h
  exact access_of_denied ha hd

/-- An access is let through where it is not denied and reaches no device. -/
theorem allows_iff {cfg : Config} {q : Access} :
    allows cfg q = true ↔ ¬ Denied cfg q ∧ ∀ a ∈ q.touched, memKind cfg a ≠ .device := by
  simp only [allows, List.all_eq_true, Bool.and_eq_true, Bool.not_eq_true', decide_eq_false_iff_not, claimsDenied_iff,
    not_exists, not_and, Bool.not_eq_true]
  exact forall₂_and

/-- What an access comes to where it is neither denied nor let through: the refusal of a device. -/
theorem access_of_device {cfg : Config} {q : Access} (hd : ¬ Denied cfg q)
    (h : ∃ a ∈ q.touched, memKind cfg a = .device) : ∃ a, access cfg q = .refused (.deviceAccess a) := by
  have hany : ¬ q.touched.any (fun a => denied q.dir (memKind cfg a)) = true :=
    fun hany => hd (claimsDenied_iff.2 (List.any_eq_true.1 hany))
  obtain ⟨a, ha⟩ : ∃ a, q.touched.find? (fun a => decide (memKind cfg a = .device)) = some a :=
    Option.isSome_iff_exists.1 (List.find?_isSome.2 (by simpa using h))
  exact ⟨a, by simp only [access, if_neg hany, ha]⟩

/-- R95: with the default `MEM_MAP` every address is ram. -/
theorem allows_of_noMap {cfg : Config} (h : cfg.memMap = []) (q : Access) : allows cfg q = true := by
  have hram (a : Word) : memKind cfg a = .ram := by simp [memKind, h]
  exact allows_iff.2 ⟨fun hd => by simp [Denied, hram] at hd, fun a _ => by simp [hram]⟩

/-! ## Words in memory -/

theorem wordAt_eq_word (s : State) (a : Word) : s.wordAt a = word s.cfg.byteOrder s.mem a := by
  unfold State.wordAt word
  cases s.cfg.byteOrder <;> rfl

theorem write_stores8 (m : Memory) (a : Word) (v : Byte) : Stores8 m (m.write a v) a v :=
  fun b => Memory.read_write m a b v

theorem withWord_stores16 (s : State) (a v : Word) : Stores16 s.cfg.byteOrder s.mem (s.withWord a v) a v := by
  intro b
  rw [State.read_withWord]
  cases s.cfg.byteOrder <;> rfl

/-- A word stored is the word read there (R82, R83). -/
theorem word_of_stores16 {o : ByteOrder} {m m' : Memory} {a v : Word} (h : Stores16 o m m' a v) : word o m' a = v := by
  have hv : cat (high v) (low v) = v := wordOf_hiByte_loByte v
  unfold word
  rw [h a, h (a + 1#16), if_pos rfl, if_neg (Word.ne_add_one a).symm, if_pos rfl]
  cases o <;> simp [hv]

/-! ## The bytes an instruction keeps -/

/-- The address is in none of the bytes the accesses write. -/
def Outside (a : Word) (qs : List Access) : Prop := ∀ q ∈ qs, q.dir = .write → a ∉ q.touched

/-- The byte at the address reads in `t` as it did in `s`. -/
def KeepsByte (a : Word) (s t : State) : Prop := t.mem.read a = s.mem.read a

theorem KeepsByte.refl {a : Word} {s : State} : KeepsByte a s s := rfl

section Frame

variable {a : Word} {s t : State}

theorem outside_append {l m : List Access} : Outside a (l ++ m) ↔ Outside a l ∧ Outside a m := List.forall_mem_append

theorem outside_writeOf_byte {b : Word} : Outside a [writeOf b .byte] ↔ a ≠ b := by
  simp [Outside, writeOf, Access.touched]

theorem outside_writeOf_word {b : Word} : Outside a [writeOf b .word] ↔ a ≠ b ∧ a ≠ b + 1#16 := by
  simp [Outside, writeOf, Access.touched]

theorem outside_of_cons {q : Access} {l : List Access} (h : Outside a (q :: l)) : Outside a l :=
  (List.forall_mem_cons.1 h).2

theorem memWrite8_keepsByte {b : Word} (hb : Outside a [writeOf b .byte]) (h : KeepsByte a s t) (v : Byte) :
    Answers (KeepsByte a s) (memWrite8 b v t) :=
  .afterAny fun _ => .next ((Memory.read_write_other t.mem v (outside_writeOf_byte.1 hb)).trans h)

theorem memWrite16_keepsByte {b : Word} (hb : Outside a [writeOf b .word]) (h : KeepsByte a s t) (v : Word) :
    Answers (KeepsByte a s) (memWrite16 b v t) := by
  obtain ⟨hfirst, hsecond⟩ := outside_writeOf_word.1 hb
  have hread : (t.withWord b v).read a = t.mem.read a := by
    rw [State.read_withWord, if_neg hfirst, if_neg hsecond]
  exact .afterAny fun _ => .next (hread.trans h)

/-- A write of an 8-bit operand, where memory in the state written to and HL are those before the instruction. -/
theorem op8Write_keepsByte {r : Reg8} (hr : Outside a (writesM r s)) (hx : t.x = s.x) (h : KeepsByte a s t) (v : Byte) :
    Answers (KeepsByte a s) (op8Write r v t) := by
  cases r with
  | m =>
    have hhl : Outside a [writeOf t.hl .byte] := by rw [State.hl, hx]; exact hr
    exact memWrite8_keepsByte hhl h v
  | a | h | l | b | c | d | e => exact .next h

theorem push8_keepsByte (hb : Outside a [writeOf (s.sp - 1#16) .byte]) (v : Byte) :
    Answers (KeepsByte a s) (push8 v s) := memWrite8_keepsByte hb .refl v

theorem push16_keepsByte (hb : Outside a [writeOf (s.sp - 2#16) .word]) (v : Word) :
    Answers (KeepsByte a s) (push16 v s) := memWrite16_keepsByte hb .refl v

theorem pull16_keepsByte (s : State) : Answers (fun p => KeepsByte a s p.2) (pull16 s) :=
  .afterAny fun _ => .next rfl

theorem trap_keepsByte (hb : Outside a [writeOf (s.sp - 2#16) .word]) (k : TrapKind) :
    Answers (KeepsByte a s) (trap k s) := by
  unfold trap
  cases vectorOf s.cfg k with
  | none => exact .fault
  | some v => exact (push16_keepsByte hb _).andThen fun _ ht => .next ht

theorem execIrq_keepsByte (h : Outside a (dataAccesses .irq s)) : Answers (KeepsByte a s) (execIrq s) := by
  unfold execIrq
  split
  · next hi =>
    have hpush : dataAccesses .irq s = [writeOf (s.sp - 2#16) .word] := if_pos hi
    exact trap_keepsByte (hpush ▸ h) .irq
  · exact .next rfl

theorem jumpIf_keepsByte (taken : Bool) (k : Word) (s : State) : Answers (KeepsByte a s) (jumpIf taken k s) := by
  cases taken <;> exact .next rfl

theorem alu8Reg_keepsByte (op : Op2 8) (r : Reg8) (s : State) : Answers (KeepsByte a s) (alu8Reg op r s) :=
  .afterAny fun _ => .next rfl

theorem compare8Reg_keepsByte (r : Reg8) (s : State) : Answers (KeepsByte a s) (compare8Reg r s) :=
  .afterAny fun _ => .next rfl

theorem loadA_keepsByte (r : Reg8) (s : State) : Answers (KeepsByte a s) (loadA r s) :=
  .afterAny fun _ => .next rfl

theorem swapA_keepsByte {r : Reg8} (hr : Outside a (writesM r s)) : Answers (KeepsByte a s) (swapA r s) :=
  .afterAny fun _ => (op8Write_keepsByte hr rfl .refl _).andThen fun _ ht => .next ht

theorem storeA_keepsByte {r : Reg8} (hr : Outside a (writesM r s)) : Answers (KeepsByte a s) (storeA r s) :=
  (op8Write_keepsByte hr rfl .refl _).andThen fun _ ht => .next ht

theorem pullReg8_keepsByte {r : Reg8} (hr : Outside a (writesM r s)) : Answers (KeepsByte a s) (pullReg8 r s) := by
  have hpull : Answers (fun p => p.2.x = s.x ∧ KeepsByte a s p.2) (pull8 s) := .afterAny fun _ => .next ⟨rfl, rfl⟩
  exact hpull.andThen fun p hp => (op8Write_keepsByte hr hp.1 hp.2 p.1).andThen fun _ ht => .next ht

theorem pushReg8_keepsByte (hb : Outside a [writeOf (s.sp - 1#16) .byte]) (r : Reg8) :
    Answers (KeepsByte a s) (pushReg8 r s) :=
  .afterAny fun v => (push8_keepsByte hb v).andThen fun _ ht => .next ht

theorem divide_keepsByte (op : Bool → Op2 16) (rd : Reg16) (b n : Word) (s : State) :
    Answers (KeepsByte a s) (divide op rd b n s) := by
  unfold divide
  split
  · exact .fault
  · exact .next rfl

end Frame

/-- A byte outside the writes of R81's table is kept, by the shape of each meaning. -/
theorem exec_keepsByte {a : Word} (i : Instr) (s : State) (h : Outside a (dataAccesses i s)) :
    Answers (KeepsByte a s) (exec i s) := by
  have hnone (r : Reg8) (hr : r ≠ .m) : Outside a (writesM r s) := by simp [writesM, hr, Outside]
  unfold exec
  cases i with
  | nop | hlt | wfi | sfi | cfi | sft | cft | exr | exf | tri | jmp
  | tRR | tFR | swpRr | tpc | traRk | swpFf | tFF | tRF | traFk | addFf | mulFf | subFf | divFf | modFf | powFf
  | addFk | mulFk | subFk | divFk | modFk | inv | srt | irt | sin | cos | tan | abs | negF | cmpFf | cmpFk
  | adi | aci | sui | sci | ani | ori | xri | cpi | asl | asr | rol | ror | com | neg
  | addRr | adcRr | subRr | sbcRr | cmpRr | andRr | orrRr | xorRr | mulRr
  | addRk | adcRk | subRk | sbcRk | cmpRk | andRk | orrRk | xorRk | muk
  | aslR | asrR | rolR | rorR | comR | negR => exact .next rfl
  | lda | lrK | ldmRm | trR | lfk | trF | jmm => exact .afterAny fun _ => .next rfl
  | tha | tla | tba | tca | tda | tea | tma => exact loadA_keepsByte _ s
  | adh | adl | adb | adc | add | ade | adm | ach | acl | acb | acc | acd | ace | acm
  | suh | sul | sub | suc | sud | sue | sum | sch | scl | scb | scc | scd | sce | scm
  | anh | anl | anb | anc | and | ane | anm | orh | orl | orb | orc | ord | ore | orm
  | xrh | xrl | xrb | xrc | xrd | xre | xrm => exact alu8Reg_keepsByte _ _ s
  | cph | cpl | cpb | cpc | cpd | cpe | cpm => exact compare8Reg_keepsByte _ s
  | jsc | jzc | jvc | jic | jtc | jpc | jhc | jcc | jss | jzs | jvs | jis | jts | jps | jhs | jcs
  | jne | jeq | jlt | jle | jgt | jge => exact jumpIf_keepsByte _ _ s
  | divRr | dik | modRr | mok => exact divide_keepsByte _ _ _ _ s
  | swh | swl | swb | swc | swd | swe => exact swapA_keepsByte (hnone _ nofun)
  | tah | tal | tab | tac | tad | tae => exact storeA_keepsByte (hnone _ nofun)
  | pla | plh | pll | plb | plc | pld | ple => exact pullReg8_keepsByte (hnone _ nofun)
  | swm => exact swapA_keepsByte (outside_of_cons h)
  | tam => exact storeA_keepsByte h
  | plm => exact pullReg8_keepsByte (outside_of_cons h)
  | pha | phh | phl | phb | phc | phd | phe => exact pushReg8_keepsByte h _
  | phm => exact pushReg8_keepsByte (outside_of_cons h) _
  | sta => exact (memWrite8_keepsByte h .refl _).andThen fun _ ht => .next ht
  | srK | stmMr | sfk => exact (memWrite16_keepsByte h .refl _).andThen fun _ ht => .next ht
  | swpFk =>
    exact .afterAny fun _ => (memWrite16_keepsByte (outside_of_cons h) .refl _).andThen fun _ ht => .next ht
  | tRr | tFr => exact (op8Write_keepsByte h rfl .refl _).andThen fun _ ht => .next ht
  | pshR | pshF | jsr => exact (push16_keepsByte h _).andThen fun _ ht => .next ht
  | jsm =>
    have hpush := (outside_append.1 h).2
    exact .afterAny fun _ => (push16_keepsByte hpush _).andThen fun _ ht => .next ht
  | pulR | pulF | ret | rfi => exact (pull16_keepsByte s).andThen fun _ hp => .next hp
  | nmi | trp => exact trap_keepsByte h _
  | irq => exact execIrq_keepsByte h
  | bds => exact .refused

end Sys2Proof.Proofs

/-! SUPPORT. The fetch of an encoding: its opcode byte selects the instruction's form, the form reads the operand bytes
back, and so the fetch where the encoding stands answers the instruction. -/
namespace Sys2Proof.Proofs

open Machine Claims

/-! ## The form an encoding selects -/

/-- The form takes these operand bytes and no more, and reads them as the instruction. -/
structure ReadsAs (cfg : Config) (op : Byte) (f : Form) (operands : List Byte) (i : Instr) : Prop where
  length_eq : f.length = operands.length + 1
  decode_eq : ∀ rest, decodeOperands cfg op f (operands ++ rest) = .ok (i, rest)

namespace ReadsAs

variable {cfg : Config} {op : Byte}

theorem one (i : Instr) : ReadsAs cfg op (.one i) [] i := ⟨rfl, fun _ => rfl⟩

theorem k8 (mk : Byte → Instr) (k : Byte) : ReadsAs cfg op (.k8 mk) [k] (mk k) := ⟨rfl, fun _ => rfl⟩

theorem k16 (mk : Word → Instr) (k : Word) : ReadsAs cfg op (.k16 mk) (wordBytes cfg.byteOrder k) (mk k) :=
  ⟨rfl, decodeOperands_k16 k⟩

theorem single {α : Type} {code : Nat → Option α} {mk : α → Instr} {r : α} {c : Byte} (h : code c.toNat = some r) :
    ReadsAs cfg op (.single code mk) [c] (mk r) :=
  ⟨rfl, decodeOperands_single h⟩

theorem singleK {α : Type} {code : Nat → Option α} {mk : α → Word → Instr} {r : α} {c : Byte}
    (h : code c.toNat = some r) (k : Word) :
    ReadsAs cfg op (.singleK code mk) (c :: wordBytes cfg.byteOrder k) (mk r k) :=
  ⟨rfl, decodeOperands_singleK h k⟩

theorem pair {α β : Type} {first : Nat → Option α} {second : Nat → Option β} {mk : α → β → Instr} {d : α} {e : β}
    {c c' : Byte} (h : first c.toNat = some d) (h' : second c'.toNat = some e) (hc : c.toNat < 16)
    (hc' : c'.toNat < 16) : ReadsAs cfg op (.pair first second mk) [pairByte c c'] (mk d e) :=
  ⟨rfl, decodeOperands_pair h h' hc hc'⟩

end ReadsAs

/-- In a list of optional keys that names none twice, the first entry found at a key is the one that stands there. -/
theorem find?_key_eq_some {α : Type} {l : List (Option Byte × α)} (hl : (l.filterMap (·.1)).Nodup) {b : Byte} {e : α}
    (hmem : (some b, e) ∈ l) : l.find? (fun p => p.1 == some b) = some (some b, e) := by
  induction l with
  | nil => cases hmem
  | cons p l ih =>
    obtain rfl | hmem := List.mem_cons.1 hmem
    · simp
    · have hb : b ∈ l.filterMap (·.1) := List.mem_filterMap.2 ⟨_, hmem, rfl⟩
      have hp : p.1 ≠ some b := by
        intro hp
        rw [List.filterMap_cons_some hp] at hl
        exact (List.nodup_cons.1 hl).1 hb
      have hrest : (l.filterMap (·.1)).Nodup := hl.sublist ((List.sublist_cons_self p l).filterMap _)
      rw [List.find?_cons_of_neg (by simpa using hp), ih hrest hmem]

/-- The `ENC_` bytes being distinct, a supplied one selects its own instruction (R146). -/
theorem entryOf_parameter {cfg : Config} (hd : encodingsDistinct cfg = true) {b : Byte} {e : MapEntry}
    (hmem : (some b, e) ∈ encodedByParameter cfg) : entryOf cfg b = some e := by
  obtain ⟨hfree, hnodup⟩ := Bool.and_eq_true_iff.1 hd
  have hb : b ∈ (encodedByParameter cfg).filterMap (·.1) := List.mem_filterMap.2 ⟨_, hmem, rfl⟩
  have hcell : mapCell b = none := by simpa using List.all_eq_true.1 hfree b hb
  simp [entryOf, hcell, find?_key_eq_some (of_decide_eq_true hnodup) hmem]

/-- The bytes are an opcode byte that selects a form, from the instruction's first variant on, and operand bytes that
form reads as the instruction. -/
def Selects (cfg : Config) (bytes : List Byte) (i : Instr) : Prop :=
  ∃ op operands f, bytes = op :: operands ∧ entryOf cfg op = some ⟨i.firstVariant, f⟩ ∧ ReadsAs cfg op f operands i

section Selection

variable {cfg : Config} {i : Instr} {f : Form} {operands bytes : List Byte}

theorem selects_of_cell {op : Byte} (he : some (op :: operands) = some bytes)
    (hcell : mapCell op = some ⟨i.firstVariant, f⟩) (hr : ReadsAs cfg op f operands i) : Selects cfg bytes i :=
  ⟨op, operands, f, (Option.some.inj he).symm, by simp [entryOf, hcell], hr⟩

theorem selects_of_parameter (hd : encodingsDistinct cfg = true) {enc : Option Byte} {n : Nat}
    (he : enc.map (fun op => op :: operands) = some bytes)
    (hn : (encodedByParameter cfg)[n]? = some (enc, ⟨i.firstVariant, f⟩)) (hr : ∀ op, ReadsAs cfg op f operands i) :
    Selects cfg bytes i := by
  obtain ⟨op, rfl, hbytes⟩ := Option.map_eq_some_iff.1 he
  exact ⟨op, operands, f, hbytes.symm, entryOf_parameter hd (List.mem_of_getElem? hn), hr op⟩

end Selection

/-- Every encoding selects its instruction: by its cell of the map, or by its parameter (R125, R146). -/
theorem encode_selects {cfg : Config} (hd : encodingsDistinct cfg = true) {i : Instr} {bytes : List Byte}
    (he : encode cfg i = some bytes) : Selects cfg bytes i := by
  cases i with
  | nop | hlt | sfi | cfi | sft | cft | exr | swh | swl | swb | swc | swd | swe | swm | tha | tla | tba | tca | tda
  | tea | tma | tah | tal | tab | tac | tad | tae | tam | pla | plh | pll | plb | plc | pld | ple | plm | pha | phh
  | phl | phb | phc | phd | phe | phm | jmm | jsm | ret | rfi | irq | nmi | wfi | adh | adl | adb | adc | add | ade
  | adm | ach | acl | acb | acc | acd | ace | acm | suh | sul | sub | suc | sud | sue | sum | sch | scl | scb | scc
  | scd | sce | scm | cph | cpl | cpb | cpc | cpd | cpe | cpm | anh | anl | anb | anc | and | ane | anm | orh | orl
  | orb | orc | ord | ore | orm | xrh | xrl | xrb | xrc | xrd | xre | xrm | asl | asr | rol | ror | com | neg
  | trp => exact selects_of_cell he rfl (.one _)
  | tri k | adi k | aci k | sui k | sci k | cpi k | ani k | ori k | xri k => exact selects_of_cell he rfl (.k8 _ k)
  | lda k | sta k | jsc k | jzc k | jvc k | jic k | jtc k | jpc k | jhc k | jcc k | jss k | jzs k | jvs k | jis k
  | jts k | jps k | jhs k | jcs k | jmp k | jne k | jeq k | jlt k | jle k | jgt k | jge k | jsr k =>
    exact selects_of_cell he rfl (.k16 _ k)
  | pshR r | pulR r | aslR r | asrR r | rolR r | rorR r | comR r | negR r =>
    exact selects_of_cell he rfl (.single r.ofCode_code)
  | pshF r | pulF r | inv r | srt r | irt r | sin r | cos r | tan r | abs r | negF r =>
    exact selects_of_cell he rfl (.single r.ofCode_code)
  | lrK r k | srK r k | addRk r k | adcRk r k | subRk r k | sbcRk r k | cmpRk r k | andRk r k | orrRk r k | xorRk r k
  | muk r k | dik r k | mok r k => exact selects_of_cell he rfl (.singleK r.ofCode_code k)
  | lfk r k | sfk r k | addFk r k | mulFk r k | subFk r k | divFk r k | cmpFk r k | modFk r k =>
    exact selects_of_cell he rfl (.singleK r.ofCode_code k)
  | tRR rd rs | trR rd rs | tRr rd rs | tFF rd rs | tRF rd rs | tFR rd rs | trF rd rs | tFr rd rs | swpRr rd rs
  | swpFf rd rs | addRr rd rs | adcRr rd rs | subRr rd rs | sbcRr rd rs | cmpRr rd rs | andRr rd rs | orrRr rd rs
  | xorRr rd rs | mulRr rd rs | divRr rd rs | modRr rd rs | addFf rd rs | mulFf rd rs | subFf rd rs | divFf rd rs
  | cmpFf rd rs | modFf rd rs | powFf rd rs =>
    exact selects_of_cell he rfl (.pair rd.ofCode_code rs.ofCode_code rd.code_lt rs.code_lt)
  | tpc => exact selects_of_parameter hd he (n := 0) rfl fun _ => .one _
  | exf => exact selects_of_parameter hd he (n := 1) rfl fun _ => .one _
  | stmMr r => exact selects_of_parameter hd he (n := 2) rfl fun _ => .single r.ofCode_code
  | ldmRm r => exact selects_of_parameter hd he (n := 3) rfl fun _ => .single r.ofCode_code
  | traRk r k => exact selects_of_parameter hd he (n := 4) rfl fun _ => .singleK r.ofCode_code k
  | traFk r k => exact selects_of_parameter hd he (n := 5) rfl fun _ => .singleK r.ofCode_code k
  | swpFk r k => exact selects_of_parameter hd he (n := 6) rfl fun _ => .singleK r.ofCode_code k
  | bds => cases he

/-- The opcode byte of an encoding has the form that reads its operand bytes, where the machine has the instruction. -/
theorem formOf_encoding {cfg : Config} (hd : encodingsDistinct cfg = true) {i : Instr} (hwf : i.wellFormed cfg = true)
    {bytes : List Byte} (he : encode cfg i = some bytes) :
    ∃ op operands f, bytes = op :: operands ∧ formOf cfg op = some f ∧ ReadsAs cfg op f operands i := by
  obtain ⟨op, operands, f, hbytes, hentry, hr⟩ := encode_selects hd he
  have hvariant : cfg.variant.has i.firstVariant = true := (Bool.and_eq_true_iff.1 hwf).1
  exact ⟨op, operands, f, hbytes, by simp [formOf, hentry, hvariant], hr⟩

/-- R147: an encoding decodes to its instruction, whatever follows. -/
theorem decode_encoding {cfg : Config} (hd : encodingsDistinct cfg = true) {i : Instr} (hwf : i.wellFormed cfg = true)
    {bytes : List Byte} (he : encode cfg i = some bytes) (rest : List Byte) :
    decode cfg (bytes ++ rest) = .ok (i, rest) := by
  obtain ⟨op, operands, f, rfl, hf, hr⟩ := formOf_encoding hd hwf he
  simp only [decode, List.cons_append, hf, hr.decode_eq]

/-! ## The fetch -/

/-- Bytes stand at an address where the reads from it on give them. -/
theorem holdsAt_iff {m : Memory} {addr : Word} {bytes : List Byte} :
    HoldsAt m addr bytes ↔ (List.range bytes.length).map (fun n => m.read (addr + BitVec.ofNat 16 n)) = bytes := by
  induction bytes generalizing addr with
  | nil => simp [HoldsAt]
  | cons b rest ih => simp [HoldsAt, ih, List.range_succ_eq_map, Function.comp_def, Word.succ_add]

/-- Bytes that stand at an address and may be read are fetched (R86). -/
theorem fetchBytes_of_holdsAt {s : State} {addr : Word} {bytes : List Byte} (hm : HoldsAt s.mem addr bytes)
    (ha : ∀ n, n < bytes.length → allows s.cfg (fetchOf (addr + BitVec.ofNat 16 n)) = true) :
    fetchBytes addr bytes.length s = .next bytes := by
  rw [fetchBytes_of_allows s bytes.length addr ha, holdsAt_iff.1 hm]

/-- The instruction whose encoding stands at pc, and may be read, is fetched (R86, R147). -/
theorem fetchInstr_of_encoding {s : State} {i : Instr} {bytes : List Byte} (hd : encodingsDistinct s.cfg = true)
    (hwf : i.wellFormed s.cfg = true) (he : encode s.cfg i = some bytes) (hm : HoldsAt s.mem s.pc bytes)
    (ha : ∀ n, n < bytes.length → allows s.cfg (fetchOf (s.pc + BitVec.ofNat 16 n)) = true) :
    fetchInstr s = .next i := by
  obtain ⟨op, operands, f, rfl, hf, hr⟩ := formOf_encoding hd hwf he
  obtain ⟨hop, hrest⟩ := hm
  have hfirst : fetchByte s.pc s = .next op :=
    fetchByte_eq_next.2 ⟨by simpa [fetchOf] using ha 0 (Nat.succ_pos _), hop.symm⟩
  have hoperands : fetchBytes (s.pc + 1#16) (f.length - 1) s = .next operands := by
    rw [hr.length_eq, Nat.add_sub_cancel]
    refine fetchBytes_of_holdsAt hrest fun n hn => ?_
    rw [Word.succ_add]
    exact ha (n + 1) (Nat.succ_lt_succ hn)
  have hdecode : decode s.cfg (op :: operands) = .ok (i, []) := by simpa using decode_encoding hd hwf he []
  simp only [fetchInstr, hfirst, andThen_next, hf, hoperands, hdecode]

/-- STA where the byte may be written (R231). -/
theorem execSta_next {k : Word} {s : State} (h : allows s.cfg (writeOf k .byte) = true) :
    exec (.sta k) s = .next ((s.setMem (s.mem.write k s.a)).advance 3#16) :=
  andThen_eq_next.2 ⟨_, memWrite8_eq_next.2 ⟨h, rfl⟩, rfl⟩

/-- R498: a machine about to fetch runs what it fetches, the boundary passed. -/
theorem step_of_aboutToFetch {s : State} (h : AboutToFetch s) :
    step s = andThen (fetchInstr s) fun i => exec i (passBoundary s) := by
  obtain ⟨hrunning, hnone⟩ := h
  simp only [step, hrunning, hnone]

end Sys2Proof.Proofs

/-! PROOFS. The statements of spec/20_memory.md. -/
namespace Sys2Proof.Settled

open Machine Claims Proofs

/-- Settles O10: each way a step can go keeps the canonical form of the state with the boundary passed. -/
theorem stepKeepsInvariant : Obligations.StepKeepsInvariant := by
  intro s t hs h
  rcases step_cases h with rfl | ⟨k, hk⟩ | ⟨i, hi⟩
  · exact hs
  · exact (trap_footprint k _ t hk).mem_wf hs
  · exact (exec_footprint i _ t hi).mem_wf hs

/-- Settles O6: the encoding at pc is fetched as its instruction, which the step then runs. -/
theorem stepRunsDecodedInstruction : Obligations.StepRunsDecodedInstruction := by
  intro s i bytes hs hd hwf he hm ha
  rw [step_of_aboutToFetch hs, fetchInstr_of_encoding hd hwf he hm ha]
  rfl

/-- Settles O9: after STA the pc is the address stored to, so the byte stored is the encoding that stands at pc. -/
theorem storedByteIsFetchedNext : Obligations.StoredByteIsFetchedNext := by
  intro s i op hs hd hwf he hop hwrite hfetch
  refine ⟨_, execSta_next hwrite, stepRunsDecodedInstruction _ i [op] hs hd hwf he ?_ fun n hn => ?_⟩
  · exact ⟨(Memory.read_write_same s.mem _ s.a).trans hop, trivial⟩
  · obtain rfl : n = 0 := Nat.lt_one_iff.1 hn
    rw [BitVec.add_zero]
    exact hfetch

/-- Settles O19: `exec_keepsByte` for each address. -/
theorem memoryFrame : Obligations.MemoryFrame := fun i s t h _ ha => exec_keepsByte i s ha t h

/-- Settles O22: the primitives answer where their access is let through, and `access` says when it is not. -/
theorem memoryPrimitives : Obligations.MemoryPrimitives := by
  refine ⟨fun s addr v w => ⟨fun h => ?_, fun h => ?_, fun h => ?_, fun h => ?_⟩,
    fun cfg q => ⟨?_, access_of_claimsDenied, access_of_device, allows_iff, fun h => allows_of_noMap h q⟩⟩
  · exact memRead8_eq_next.2 ⟨h, rfl⟩
  · exact memRead16_eq_next.2 ⟨h, (wordAt_eq_word s addr).symm⟩
  · exact ⟨_, memWrite8_eq_next.2 ⟨h, rfl⟩, rfl, write_stores8 s.mem addr v⟩
  · have hstored := withWord_stores16 s addr w
    exact ⟨_, memWrite16_eq_next.2 ⟨h, rfl⟩, rfl, hstored, word_of_stores16 hstored⟩
  · unfold Access.touched
    cases q.size <;> rfl

/-- Settles O24: a push stores below SP and a pull reads at SP, each as the primitive of its width does. -/
theorem stackPrimitives : Obligations.StackPrimitives := by
  intro s v w
  refine ⟨fun h => ?_, fun h => ?_, fun h => ?_, fun h => ?_⟩
  · exact ⟨_, push8_eq_next.2 ⟨h, rfl⟩, rfl, write_stores8 s.mem _ v⟩
  · exact pull8_eq_next.2 ⟨h, rfl⟩
  · have hstored := withWord_stores16 s (s.sp - 2#16) w
    refine ⟨_, push16_eq_next.2 ⟨h, rfl⟩, rfl, hstored, word_of_stores16 hstored, fun hbig => ?_⟩
    have hfirst := hstored (s.sp - 2#16)
    have hsecond := hstored (s.sp - 2#16 + 1#16)
    rw [hbig, if_pos rfl] at hfirst
    rw [hbig, if_neg (Word.ne_add_one _).symm, if_pos rfl] at hsecond
    exact ⟨hfirst, hsecond⟩
  · exact pull16_eq_next.2 ⟨h, by rw [wordAt_eq_word]; rfl⟩

end Sys2Proof.Settled

/-! SUPPORT. The encoding of what is decoded: whatever a form reads after its opcode byte is, written back by the
encoder, the bytes it read. Cell by cell of the opcode map, and for the seven bytes given by parameters. -/
namespace Sys2Proof.Proofs

open Machine Claims

/-! ## Encodings and their length -/

/-- An instruction has an opcode byte exactly where it has an encoding (R146, R322). -/
theorem isSome_encode (cfg : Config) (i : Instr) : (encode cfg i).isSome = i.encodable cfg := by
  cases i with
  | tpc | exf | stmMr | ldmRm | traRk | traFk | swpFk => exact Option.isSome_map
  | _ => rfl

/-- `EncodedLength.Statement` of every instruction: by its format, for any opcode byte a parameter gives. -/
theorem length_of_encode {cfg : Config} {i : Instr} {bytes : List Byte} (he : encode cfg i = some bytes) :
    bytes.length = i.length := by
  cases i with
  | tpc | exf | stmMr | ldmRm | traRk | traFk | swpFk => exact Laws.length_of_map (fun _ => rfl) he
  | bds => cases he
  | _ => exact Laws.length_of_some rfl he

/-- An instruction that has an encoding is well formed where its variant is reached. -/
theorem wellFormed_of_encode {cfg : Config} {i : Instr} {bytes : List Byte} (he : encode cfg i = some bytes)
    (hv : cfg.variant.has i.firstVariant = true) : i.wellFormed cfg = true := by
  have hencodable : i.encodable cfg = true := by rw [← isSome_encode, he]; rfl
  exact Bool.and_eq_true_iff.2 ⟨hv, hencodable⟩

/-! ## What each form reads -/

/-- The bytes of the constant that two bytes join to are the two (R114, R128). -/
theorem wordBytes_joinWord (o : ByteOrder) (b c : Byte) : wordBytes o (joinWord o b c) = [b, c] := by
  cases o <;> simp [wordBytes, joinWord, firstByte, secondByte]

section Read

variable {cfg : Config} {op : Byte} {i j : Instr} {bytes rest : List Byte}

theorem decodeOperands_one_eq_ok : decodeOperands cfg op (.one j) bytes = .ok (i, rest) ↔ i = j ∧ bytes = rest := by
  simp [decodeOperands, eq_comm]

theorem decodeOperands_k8_eq_ok {mk : Byte → Instr} :
    decodeOperands cfg op (.k8 mk) bytes = .ok (i, rest) ↔ ∃ k, i = mk k ∧ bytes = [k] ++ rest := by
  cases bytes with
  | nil => simp [decodeOperands]
  | cons k bytes => simp [decodeOperands, eq_comm]

theorem decodeOperands_reg_eq_ok {mk : Byte → Option Instr} :
    decodeOperands cfg op (.reg mk) bytes = .ok (i, rest) ↔ ∃ b, mk b = some i ∧ bytes = [b] ++ rest := by
  cases bytes with
  | nil => simp [decodeOperands]
  | cons b bytes => cases hb : mk b <;> simp [decodeOperands, hb]

theorem decodeOperands_k16_eq_ok {mk : Word → Instr} :
    decodeOperands cfg op (.k16 mk) bytes = .ok (i, rest) ↔
      ∃ k, i = mk k ∧ bytes = wordBytes cfg.byteOrder k ++ rest := by
  constructor
  · intro h
    match bytes, h with
    | b :: c :: bytes, h =>
      cases h
      exact ⟨_, rfl, by rw [wordBytes_joinWord]; rfl⟩
  · rintro ⟨k, rfl, rfl⟩
    exact decodeOperands_k16 k rest

theorem exists_of_decodeOperands_regK {mk : Byte → Option (Word → Instr)}
    (h : decodeOperands cfg op (.regK mk) bytes = .ok (i, rest)) :
    ∃ b g k, mk b = some g ∧ i = g k ∧ bytes = (b :: wordBytes cfg.byteOrder k) ++ rest := by
  match bytes, h with
  | b :: c :: d :: bytes, h =>
    cases hb : mk b with
    | none => simp [decodeOperands, hb] at h
    | some g =>
      simp only [decodeOperands, hb] at h
      cases h
      exact ⟨b, g, _, hb, rfl, by rw [wordBytes_joinWord]; rfl⟩

end Read

/-! ## Register codes -/

/-- A kind of register and its codes (R120, R122, R123): a code of one digit for each register, which names it alone. -/
structure CodesOf {α : Type} (read : Nat → Option α) (code : α → Byte) : Prop where
  register : Nonempty α
  read_eq_some : ∀ {n r}, read n = some r ↔ n = (code r).toNat
  code_lt : ∀ r, (code r).toNat < 16

theorem codesOf_reg8 : CodesOf Reg8.ofCode Reg8.code := ⟨⟨.a⟩, Reg8.ofCode_eq_some, Reg8.code_lt⟩
theorem codesOf_reg16 : CodesOf Reg16.ofCode Reg16.code := ⟨⟨.r0⟩, Reg16.ofCode_eq_some, Reg16.code_lt⟩
theorem codesOf_freg : CodesOf FReg.ofCode FReg.code := ⟨⟨.f0⟩, FReg.ofCode_eq_some, FReg.code_lt⟩

/-- A register byte whose digits are two codes is the register byte of the two (R115). -/
theorem eq_pairByte {b c d : Byte} (hc : c.toNat < 16) (hd : d.toNat < 16) (hhigh : b.toNat / 16 = c.toNat)
    (hlow : b.toNat % 16 = d.toNat) : b = pairByte c d := by
  apply BitVec.eq_of_toNat_eq
  rw [pairByte_toNat hc hd]
  omega

/-! ## What a cell reads -/

/-- An opcode byte's entry reads something, and what it reads is an instruction of its variant whose encoding is the
opcode byte and the operand bytes read. -/
structure WritesBack (cfg : Config) (op : Byte) (e : MapEntry) : Prop where
  some_read : ∃ operands i, decodeOperands cfg op e.form operands = .ok (i, [])
  encode_eq : ∀ {bytes rest i}, decodeOperands cfg op e.form bytes = .ok (i, rest) →
    i.firstVariant = e.first ∧ ∃ operands, encode cfg i = some (op :: operands) ∧ bytes = operands ++ rest

/-- The same of a cell, of which there is nothing to say where it is undefined. -/
def CellWritesBack (cfg : Config) (op : Byte) (c : Option MapEntry) : Prop := ∀ e ∈ c, WritesBack cfg op e

namespace CellWritesBack

variable {cfg : Config} {op : Byte} {v : Variant} {α β : Type} {read : Nat → Option α} {code : α → Byte}
  {read' : Nat → Option β} {code' : β → Byte}

theorem undefined : CellWritesBack cfg op none := by rintro _ ⟨⟩

theorem one {i : Instr} (he : encode cfg i = some [op] := by rfl) (hv : i.firstVariant = v := by rfl) :
    CellWritesBack cfg op (some ⟨v, .one i⟩) := by
  rintro _ ⟨⟩
  refine ⟨⟨[], i, rfl⟩, fun h => ?_⟩
  obtain ⟨rfl, rfl⟩ := decodeOperands_one_eq_ok.1 h
  exact ⟨hv, [], he, rfl⟩

theorem k8 {mk : Byte → Instr} (he : ∀ k, encode cfg (mk k) = some [op, k] := by intro _; rfl)
    (hv : ∀ k, (mk k).firstVariant = v := by intro _; rfl) : CellWritesBack cfg op (some ⟨v, .k8 mk⟩) := by
  rintro _ ⟨⟩
  refine ⟨⟨[0], mk 0, rfl⟩, fun h => ?_⟩
  obtain ⟨k, rfl, hbytes⟩ := decodeOperands_k8_eq_ok.1 h
  exact ⟨hv k, [k], he k, hbytes⟩

theorem k16 {mk : Word → Instr}
    (he : ∀ k, encode cfg (mk k) = some (op :: wordBytes cfg.byteOrder k) := by intro _; rfl)
    (hv : ∀ k, (mk k).firstVariant = v := by intro _; rfl) : CellWritesBack cfg op (some ⟨v, .k16 mk⟩) := by
  rintro _ ⟨⟩
  refine ⟨⟨[0, 0], _, rfl⟩, fun h => ?_⟩
  obtain ⟨k, rfl, hbytes⟩ := decodeOperands_k16_eq_ok.1 h
  exact ⟨hv k, wordBytes cfg.byteOrder k, he k, hbytes⟩

theorem single (hc : CodesOf read code) {mk : α → Instr}
    (he : ∀ r, encode cfg (mk r) = some [op, code r] := by intro _; rfl)
    (hv : ∀ r, (mk r).firstVariant = v := by intro _; rfl) :
    CellWritesBack cfg op (some ⟨v, .single read mk⟩) := by
  rintro _ ⟨⟩
  obtain ⟨r₀⟩ := hc.register
  refine ⟨⟨_, _, decodeOperands_single (hc.read_eq_some.2 (rfl : (code r₀).toNat = _)) []⟩, fun h => ?_⟩
  obtain ⟨b, hb, hbytes⟩ := decodeOperands_reg_eq_ok.1 h
  obtain ⟨r, hr, rfl⟩ := Option.map_eq_some_iff.1 hb
  obtain rfl : b = code r := BitVec.eq_of_toNat_eq (hc.read_eq_some.1 hr)
  exact ⟨hv r, [code r], he r, hbytes⟩

theorem singleK (hc : CodesOf read code) {mk : α → Word → Instr}
    (he : ∀ r k, encode cfg (mk r k) = some (op :: code r :: wordBytes cfg.byteOrder k) := by intro _ _; rfl)
    (hv : ∀ r k, (mk r k).firstVariant = v := by intro _ _; rfl) :
    CellWritesBack cfg op (some ⟨v, .singleK read mk⟩) := by
  rintro _ ⟨⟩
  obtain ⟨r₀⟩ := hc.register
  refine ⟨⟨_, _, decodeOperands_singleK (hc.read_eq_some.2 (rfl : (code r₀).toNat = _)) 0 []⟩, fun h => ?_⟩
  obtain ⟨b, g, k, hb, rfl, hbytes⟩ := exists_of_decodeOperands_regK h
  obtain ⟨r, hr, rfl⟩ := Option.map_eq_some_iff.1 hb
  obtain rfl : b = code r := BitVec.eq_of_toNat_eq (hc.read_eq_some.1 hr)
  exact ⟨hv r k, code r :: wordBytes cfg.byteOrder k, he r k, hbytes⟩

theorem pair (hc : CodesOf read code) (hc' : CodesOf read' code') {mk : α → β → Instr}
    (he : ∀ d s, encode cfg (mk d s) = some [op, pairByte (code d) (code' s)] := by intro _ _; rfl)
    (hv : ∀ d s, (mk d s).firstVariant = v := by intro _ _; rfl) :
    CellWritesBack cfg op (some ⟨v, .pair read read' mk⟩) := by
  rintro _ ⟨⟩
  obtain ⟨d₀⟩ := hc.register
  obtain ⟨s₀⟩ := hc'.register
  refine ⟨⟨_, _, decodeOperands_pair (hc.read_eq_some.2 rfl) (hc'.read_eq_some.2 rfl) (hc.code_lt d₀)
    (hc'.code_lt s₀) []⟩, fun h => ?_⟩
  obtain ⟨b, hb, hbytes⟩ := decodeOperands_reg_eq_ok.1 h
  split at hb
  · next d s hd hs =>
    cases hb
    obtain rfl : b = pairByte (code d) (code' s) :=
      eq_pairByte (hc.code_lt d) (hc'.code_lt s) (hc.read_eq_some.1 hd) (hc'.read_eq_some.1 hs)
    exact ⟨hv d s, [pairByte (code d) (code' s)], he d s, hbytes⟩
  · cases hb

end CellWritesBack

/-! ## The opcode map -/

/-- A run of cells, the first at opcode byte `n`, each of which is as `P` says of its byte and what stands there. -/
@[reducible] def CellsFrom (P : Byte → Option MapEntry → Prop) (n : Nat) (cells : List (Option MapEntry)) : Prop :=
  match cells with
  | [] => True
  | c :: cells => P (BitVec.ofNat 8 n) c ∧ CellsFrom P (n + 1) cells

/-- Rows of sixteen cells, the first with the high digit `n`. -/
@[reducible] def RowsFrom (P : Byte → Option MapEntry → Prop) (n : Nat) (rows : List (List (Option MapEntry))) : Prop :=
  match rows with
  | [] => True
  | row :: rows => CellsFrom P (16 * n) row ∧ RowsFrom P (n + 1) rows

section Rows

variable {P : Byte → Option MapEntry → Prop} (hnone : ∀ b, P b none)
include hnone

theorem CellsFrom.getD {n : Nat} {cells : List (Option MapEntry)} (h : CellsFrom P n cells) (j : Nat) :
    P (BitVec.ofNat 8 (n + j)) (cells.getD j none) := by
  induction cells generalizing n j with
  | nil => exact hnone _
  | cons c cells ih =>
    obtain ⟨hc, hcells⟩ := h
    cases j with
    | zero => exact hc
    | succ j =>
      have hj := ih hcells j
      rwa [Nat.succ_add_eq_add_succ] at hj

theorem RowsFrom.getD {n : Nat} {rows : List (List (Option MapEntry))} (h : RowsFrom P n rows) (m j : Nat) :
    P (BitVec.ofNat 8 (16 * (n + m) + j)) ((rows.getD m []).getD j none) := by
  induction rows generalizing n m with
  | nil => exact hnone _
  | cons row rows ih =>
    obtain ⟨hrow, hrows⟩ := h
    cases m with
    | zero => exact hrow.getD hnone j
    | succ m =>
      have hm := ih hrows m
      rwa [Nat.succ_add_eq_add_succ] at hm

/-- What holds of the map's rows holds of the cell of any byte (R125). -/
theorem mapCell_of_rowsFrom (h : RowsFrom P 0 opcodeMap) (b : Byte) : P b (mapCell b) := by
  have hcell := h.getD hnone (b.toNat / 16) (b.toNat % 16)
  rwa [Nat.zero_add, Nat.div_add_mod, BitVec.ofNat_toNat, BitVec.setWidth_eq] at hcell

end Rows

/-! ### Row by row -/

section Map

open CellWritesBack

variable (cfg : Config)

theorem opcodeRow0_writesBack : CellsFrom (CellWritesBack cfg) 0x00 opcodeRow0 := by
  unfold opcodeRow0
  exact ⟨one, one, one, one, one, one, undefined, undefined, one, one, one, one, one, one, one, one, trivial⟩

theorem opcodeRow1_writesBack : CellsFrom (CellWritesBack cfg) 0x10 opcodeRow1 := by
  unfold opcodeRow1
  exact ⟨k16, undefined, undefined, undefined, undefined, undefined, undefined, undefined, k16, undefined, undefined,
    undefined, undefined, undefined, undefined, undefined, trivial⟩

theorem opcodeRow2_writesBack : CellsFrom (CellWritesBack cfg) 0x20 opcodeRow2 := by
  unfold opcodeRow2
  exact ⟨k8, one, one, one, one, one, one, one, undefined, one, one, one, one, one, one, one, trivial⟩

theorem opcodeRow3_writesBack : CellsFrom (CellWritesBack cfg) 0x30 opcodeRow3 := by
  unfold opcodeRow3
  exact ⟨one, one, one, one, one, one, one, one, one, one, one, one, one, one, one, one, trivial⟩

theorem opcodeRow4_writesBack : CellsFrom (CellWritesBack cfg) 0x40 opcodeRow4 := by
  unfold opcodeRow4
  exact ⟨singleK codesOf_reg16, singleK codesOf_reg16, single codesOf_reg16, single codesOf_reg16,
    singleK codesOf_freg, singleK codesOf_freg, single codesOf_freg, single codesOf_freg,
    pair codesOf_reg16 codesOf_reg16, pair codesOf_reg16 codesOf_reg8, pair codesOf_reg8 codesOf_reg16,
    pair codesOf_freg codesOf_freg, pair codesOf_freg codesOf_reg16, pair codesOf_reg16 codesOf_freg,
    pair codesOf_freg codesOf_reg8, pair codesOf_reg8 codesOf_freg, trivial⟩

theorem opcodeRow5_writesBack : CellsFrom (CellWritesBack cfg) 0x50 opcodeRow5 := by
  unfold opcodeRow5
  exact ⟨pair codesOf_reg16 codesOf_reg16, pair codesOf_freg codesOf_freg, undefined, undefined, undefined, undefined,
    undefined, undefined, undefined, undefined, undefined, undefined, undefined, undefined, undefined, undefined,
    trivial⟩

theorem opcodeRow6_writesBack : CellsFrom (CellWritesBack cfg) 0x60 opcodeRow6 := by
  unfold opcodeRow6
  exact ⟨k16, k16, k16, k16, k16, k16, k16, k16, k16, k16, k16, k16, k16, k16, k16, k16, trivial⟩

theorem opcodeRow7_writesBack : CellsFrom (CellWritesBack cfg) 0x70 opcodeRow7 := by
  unfold opcodeRow7
  exact ⟨k16, one, k16, k16, k16, k16, k16, k16, k16, one, undefined, one, one, one, one, one, trivial⟩

theorem opcodeRow8_writesBack : CellsFrom (CellWritesBack cfg) 0x80 opcodeRow8 := by
  unfold opcodeRow8
  exact ⟨k8, one, one, one, one, one, one, one, k8, one, one, one, one, one, one, one, trivial⟩

theorem opcodeRow9_writesBack : CellsFrom (CellWritesBack cfg) 0x90 opcodeRow9 := by
  unfold opcodeRow9
  exact ⟨k8, one, one, one, one, one, one, one, k8, one, one, one, one, one, one, one, trivial⟩

theorem opcodeRowA_writesBack : CellsFrom (CellWritesBack cfg) 0xA0 opcodeRowA := by
  unfold opcodeRowA
  exact ⟨k8, one, one, one, one, one, one, one, k8, one, one, one, one, one, one, one, trivial⟩

theorem opcodeRowB_writesBack : CellsFrom (CellWritesBack cfg) 0xB0 opcodeRowB := by
  unfold opcodeRowB
  exact ⟨k8, one, one, one, one, one, one, one, k8, one, one, one, one, one, one, one, trivial⟩

theorem opcodeRowC_writesBack : CellsFrom (CellWritesBack cfg) 0xC0 opcodeRowC := by
  unfold opcodeRowC
  exact ⟨one, one, one, one, one, one, undefined, undefined, pair codesOf_reg16 codesOf_reg16,
    pair codesOf_reg16 codesOf_reg16, pair codesOf_reg16 codesOf_reg16, pair codesOf_reg16 codesOf_reg16,
    pair codesOf_reg16 codesOf_reg16, pair codesOf_reg16 codesOf_reg16, pair codesOf_reg16 codesOf_reg16,
    pair codesOf_reg16 codesOf_reg16, trivial⟩

theorem opcodeRowD_writesBack : CellsFrom (CellWritesBack cfg) 0xD0 opcodeRowD := by
  unfold opcodeRowD
  exact ⟨single codesOf_reg16, single codesOf_reg16, single codesOf_reg16, single codesOf_reg16, single codesOf_reg16,
    single codesOf_reg16, undefined, undefined, singleK codesOf_reg16, singleK codesOf_reg16, singleK codesOf_reg16,
    singleK codesOf_reg16, singleK codesOf_reg16, singleK codesOf_reg16, singleK codesOf_reg16, singleK codesOf_reg16,
    trivial⟩

theorem opcodeRowE_writesBack : CellsFrom (CellWritesBack cfg) 0xE0 opcodeRowE := by
  unfold opcodeRowE
  exact ⟨pair codesOf_reg16 codesOf_reg16, singleK codesOf_reg16, pair codesOf_reg16 codesOf_reg16,
    singleK codesOf_reg16, pair codesOf_reg16 codesOf_reg16, singleK codesOf_reg16, undefined, undefined,
    pair codesOf_freg codesOf_freg, pair codesOf_freg codesOf_freg, pair codesOf_freg codesOf_freg,
    pair codesOf_freg codesOf_freg, pair codesOf_freg codesOf_freg, pair codesOf_freg codesOf_freg, undefined,
    undefined, trivial⟩

theorem opcodeRowF_writesBack : CellsFrom (CellWritesBack cfg) 0xF0 opcodeRowF := by
  unfold opcodeRowF
  exact ⟨single codesOf_freg, single codesOf_freg, single codesOf_freg, single codesOf_freg, single codesOf_freg,
    single codesOf_freg, single codesOf_freg, single codesOf_freg, singleK codesOf_freg, singleK codesOf_freg,
    singleK codesOf_freg, singleK codesOf_freg, singleK codesOf_freg, singleK codesOf_freg,
    pair codesOf_freg codesOf_freg, one, trivial⟩

theorem opcodeMap_writesBack : RowsFrom (CellWritesBack cfg) 0 opcodeMap :=
  ⟨opcodeRow0_writesBack cfg, opcodeRow1_writesBack cfg, opcodeRow2_writesBack cfg, opcodeRow3_writesBack cfg,
    opcodeRow4_writesBack cfg, opcodeRow5_writesBack cfg, opcodeRow6_writesBack cfg, opcodeRow7_writesBack cfg,
    opcodeRow8_writesBack cfg, opcodeRow9_writesBack cfg, opcodeRowA_writesBack cfg, opcodeRowB_writesBack cfg,
    opcodeRowC_writesBack cfg, opcodeRowD_writesBack cfg, opcodeRowE_writesBack cfg, opcodeRowF_writesBack cfg,
    trivial⟩

/-- What any cell of the map reads is written back as it stood. -/
theorem mapCell_writesBack (op : Byte) : CellWritesBack cfg op (mapCell op) :=
  mapCell_of_rowsFrom (P := CellWritesBack cfg) (fun _ => undefined) (opcodeMap_writesBack cfg) op

end Map

/-! ## Opcode bytes -/

section Opcodes

open CellWritesBack

variable {cfg : Config}

/-- What an instruction with an `ENC_` byte reads is written back as it stood (R146). -/
theorem encodedByParameter_writesBack {op : Byte} {e : MapEntry} (h : (some op, e) ∈ encodedByParameter cfg) :
    WritesBack cfg op e := by
  suffices CellWritesBack cfg op (some e) from this e rfl
  simp only [encodedByParameter, List.mem_cons, Prod.mk.injEq, List.not_mem_nil, or_false] at h
  rcases h with ⟨henc, rfl⟩ | ⟨henc, rfl⟩ | ⟨henc, rfl⟩ | ⟨henc, rfl⟩ | ⟨henc, rfl⟩ | ⟨henc, rfl⟩ | ⟨henc, rfl⟩
  · exact one (congrArg (Option.map fun b => [b]) henc.symm)
  · exact one (congrArg (Option.map fun b => [b]) henc.symm)
  · exact single codesOf_reg16 fun r => congrArg (Option.map fun b => [b, r.code]) henc.symm
  · exact single codesOf_reg16 fun r => congrArg (Option.map fun b => [b, r.code]) henc.symm
  · exact singleK codesOf_reg16 fun r k => congrArg (Option.map (· :: r.code :: wordBytes _ k)) henc.symm
  · exact singleK codesOf_freg fun r k => congrArg (Option.map (· :: r.code :: wordBytes _ k)) henc.symm
  · exact singleK codesOf_freg fun r k => congrArg (Option.map (· :: r.code :: wordBytes _ k)) henc.symm

/-- What gives a byte its meaning is the map's cell, or else a parameter that is this byte. -/
theorem entryOf_cases {op : Byte} {e : MapEntry} (h : entryOf cfg op = some e) :
    mapCell op = some e ∨ (some op, e) ∈ encodedByParameter cfg := by
  unfold entryOf at h
  split at h
  · next hcell => exact .inl (hcell.trans h)
  · obtain ⟨⟨enc, _⟩, hfind, rfl⟩ := Option.map_eq_some_iff.1 h
    obtain rfl : enc = some op := by simpa using List.find?_some hfind
    exact .inr (List.mem_of_find?_eq_some hfind)

theorem entryOf_writesBack {op : Byte} {e : MapEntry} (h : entryOf cfg op = some e) : WritesBack cfg op e := by
  rcases entryOf_cases h with hcell | hparam
  · exact mapCell_writesBack cfg op e hcell
  · exact encodedByParameter_writesBack hparam

/-- An opcode byte selects the form of its entry, from the entry's first variant on (R145). -/
theorem formOf_eq_some {op : Byte} {f : Form} :
    formOf cfg op = some f ↔ ∃ v, entryOf cfg op = some ⟨v, f⟩ ∧ cfg.variant.has v = true := by
  unfold formOf
  cases entryOf cfg op with
  | none => simp
  | some e => cases e; simp [and_comm]

/-- R142, R145: what decodes is an instruction of the configured machine, and the bytes read are its encoding. -/
theorem decode_writesBack {bytes rest : List Byte} {i : Instr} (h : decode cfg bytes = .ok (i, rest)) :
    i.wellFormed cfg = true ∧ ∃ enc, encode cfg i = some enc ∧ bytes = enc ++ rest := by
  cases bytes with
  | nil => cases h
  | cons op operands =>
    cases hf : formOf cfg op with
    | none => simp [decode, hf] at h
    | some f =>
      obtain ⟨v, hentry, hv⟩ := formOf_eq_some.1 hf
      simp only [decode, hf] at h
      obtain ⟨rfl, enc, he, rfl⟩ := (entryOf_writesBack hentry).encode_eq h
      exact ⟨wellFormed_of_encode he hv, op :: enc, he, rfl⟩

/-- A byte begins some instruction exactly where it selects a form (R147). -/
theorem isOpcode_iff (hd : encodingsDistinct cfg = true) {op : Byte} :
    IsOpcode cfg op ↔ ∃ f, formOf cfg op = some f := by
  constructor
  · rintro ⟨i, bytes, hwf, he⟩
    obtain ⟨_, _, f, hbytes, hf, -⟩ := formOf_encoding hd hwf he
    cases hbytes
    exact ⟨f, hf⟩
  · rintro ⟨f, hf⟩
    obtain ⟨v, hentry, hv⟩ := formOf_eq_some.1 hf
    have hw := entryOf_writesBack hentry
    obtain ⟨operands, i, hread⟩ := hw.some_read
    obtain ⟨rfl, enc, he, -⟩ := hw.encode_eq hread
    exact ⟨i, enc, wellFormed_of_encode he hv, he⟩

end Opcodes

/-! ## The opcode bytes of each variant -/

/-- A list of bytes as the set of its members: bit `n` of the number stands for byte `n`. -/
def byteSet (l : List Byte) : Nat :=
  match l with
  | [] => 0
  | b :: l => 2 ^ b.toNat ||| byteSet l

theorem testBit_byteSet (l : List Byte) (b : Byte) : (byteSet l).testBit b.toNat = true ↔ b ∈ l := by
  induction l with
  | nil => simp [byteSet]
  | cons c l ih =>
    rw [byteSet, Nat.testBit_or, Bool.or_eq_true, ih, Nat.testBit_two_pow, decide_eq_true_iff, BitVec.toNat_inj,
      List.mem_cons, eq_comm]

theorem mem_iff_of_byteSet_eq {l l' : List Byte} (h : byteSet l = byteSet l') (b : Byte) : b ∈ l ↔ b ∈ l' := by
  rw [← testBit_byteSet, h, testBit_byteSet]

/-- The opcode bytes whose cell of the map is such. -/
def cellsWhere (p : Option MapEntry → Bool) : List Byte := (span 0x00 0xFF).filter fun b => p (mapCell b)

theorem mem_cellsWhere {p : Option MapEntry → Bool} {b : Byte} : b ∈ cellsWhere p ↔ p (mapCell b) = true := by
  have hb : b ∈ span 0x00 0xFF := List.mem_map.2 ⟨b.toNat, List.mem_range.2 b.isLt, by simp⟩
  simp [cellsWhere, hb]

/-- The table of R145 is the map's: it gives a byte to the first variant of its cell. -/
theorem mem_opcodesFrom_iff (b : Byte) (v : Variant) : b ∈ opcodesFrom v ↔ (mapCell b).map (·.first) = some v := by
  have htable : byteSet (opcodesFrom v) = byteSet (cellsWhere fun c => c.map (·.first) == some v) := by
    cases v <;> decide
  rw [mem_iff_of_byteSet_eq htable, mem_cellsWhere, beq_iff_eq]

/-- The bytes R140 lists are the undefined cells. -/
theorem mem_undefinedOpcodes_iff (b : Byte) : b ∈ undefinedOpcodes ↔ mapCell b = none := by
  have hlist : byteSet undefinedOpcodes = byteSet (cellsWhere Option.isNone) := by decide
  rw [mem_iff_of_byteSet_eq hlist, mem_cellsWhere, Option.isNone_iff_eq_none]

/-- A variant's opcode bytes are the cells of the map whose first variant it reaches (R2). -/
theorem mem_opcodesOf_iff (b : Byte) (v : Variant) :
    b ∈ opcodesOf v ↔ ∃ e, mapCell b = some e ∧ v.has e.first = true := by
  have hfrom := mem_opcodesFrom_iff b
  cases hcell : mapCell b with
  | none => cases v <;> simp [opcodesOf, hfrom, hcell]
  | some e =>
    obtain ⟨w, f⟩ := e
    cases v <;> cases w <;> simp [opcodesOf, hfrom, hcell, Variant.has, Variant.rank]

/-- The largest variant has what any variant introduced (R2). -/
theorem has_of_largest (w : Variant) : Variant.v80143.has w = true := by
  cases w <;> rfl

section NoParameters

variable {cfg : Config} (h : NoParameterEncodings cfg)
include h

theorem encodingsDistinct_of_noParameters : encodingsDistinct cfg = true := by
  obtain ⟨htpc, hexf, hstmm, hldmm, htrk, htfk, hswfk⟩ := h
  simp [encodingsDistinct, encodedByParameter, htpc, hexf, hstmm, hldmm, htrk, htfk, hswfk]

theorem entryOf_of_noParameters (b : Byte) : entryOf cfg b = mapCell b := by
  obtain ⟨htpc, hexf, hstmm, hldmm, htrk, htfk, hswfk⟩ := h
  cases hcell : mapCell b <;> simp [entryOf, hcell, encodedByParameter, htpc, hexf, hstmm, hldmm, htrk, htfk, hswfk]

/-- Without parameters the opcode bytes are the map's alone. -/
theorem isOpcode_iff_of_noParameters (b : Byte) :
    IsOpcode cfg b ↔ ∃ e, mapCell b = some e ∧ cfg.variant.has e.first = true := by
  rw [isOpcode_iff (encodingsDistinct_of_noParameters h)]
  simp only [formOf_eq_some, entryOf_of_noParameters h]
  exact ⟨fun ⟨f, v, he, hv⟩ => ⟨⟨v, f⟩, he, hv⟩, fun ⟨⟨v, f⟩, he, hv⟩ => ⟨f, v, he, hv⟩⟩

end NoParameters

/-! ## The fetch of bytes that are no encoding -/

/-- The longest format has four bytes (R110). -/
theorem form_length_le (f : Form) : f.length ≤ 4 := by
  cases f <;> simp [Form.length]

/-- What decodes to nothing after a defined opcode byte is of a format with operand bytes. -/
theorem form_length_ne_one {cfg : Config} {op : Byte} {operands : List Byte} {f : Form} {e : DecodeError}
    (hf : formOf cfg op = some f) (h : decode cfg (op :: operands) = .error e) : f.length - 1 ≠ 0 := by
  cases f with
  | one i => simp [decode, hf, decodeOperands] at h
  | _ => exact Nat.succ_ne_zero _

/-- Of the bytes that stand at an address the first ones stand there. -/
theorem holdsAt_of_append {m : Memory} {addr : Word} {bytes more : List Byte} (h : HoldsAt m addr (bytes ++ more)) :
    HoldsAt m addr bytes := by
  induction bytes generalizing addr with
  | nil => trivial
  | cons b bytes ih =>
    obtain ⟨hb, hrest⟩ := h
    exact ⟨hb, ih hrest⟩

/-- Bytes that may all be read are fetched as they stand, the first at the address itself (R86). -/
theorem exists_fetchBytes {s : State} {addr : Word} {n : Nat}
    (ha : ∀ m, m < n → allows s.cfg (fetchOf (addr + BitVec.ofNat 16 m)) = true) :
    ∃ bytes, fetchBytes addr n s = .next bytes ∧ HoldsAt s.mem addr bytes ∧
      (n ≠ 0 → bytes.head? = some (s.mem.read addr)) :=
  ⟨_, fetchBytes_of_allows s n addr ha, by simp [holdsAt_iff], fun hn => by simp [List.head?_range, hn]⟩

/-- R147, steps 1 and 2: a byte that selects no form is the fault, and no byte after it is read. -/
theorem fetchInstr_of_undefined {s : State} (ha : allows s.cfg (fetchOf s.pc) = true)
    (hf : formOf s.cfg (s.mem.read s.pc) = none) :
    fetchInstr s = .fault (.undefinedInstruction s.pc (s.mem.read s.pc) none) := by
  have hfirst : fetchByte s.pc s = .next (s.mem.read s.pc) := fetchByte_eq_next.2 ⟨ha, rfl⟩
  simp only [fetchInstr, hfirst, andThen_next, hf]

/-- R142, R147: bytes whose first selects a form and that are no encoding have a reserved register byte, which the fault
carries: an opcode byte that stands alone is an encoding. -/
theorem fetchInstr_of_reserved {s : State}
    (ha : ∀ n : Nat, n < 4 → allows s.cfg (fetchOf (s.pc + BitVec.ofNat 16 n)) = true)
    (hno : ∀ i bytes, i.wellFormed s.cfg = true → encode s.cfg i = some bytes → ¬ HoldsAt s.mem s.pc bytes) {f : Form}
    (hf : formOf s.cfg (s.mem.read s.pc) = some f) :
    fetchInstr s =
      .fault (.undefinedInstruction s.pc (s.mem.read s.pc) (some (s.mem.read (s.pc + 1#16)))) := by
  have hfirst : fetchByte s.pc s = .next (s.mem.read s.pc) :=
    fetchByte_eq_next.2 ⟨by simpa [fetchOf] using ha 0 (by decide), rfl⟩
  have hlength := form_length_le f
  obtain ⟨operands, hfetched, hstand, hhead⟩ := exists_fetchBytes (s := s) (addr := s.pc + 1#16) (n := f.length - 1)
    fun n hn => by
      rw [Word.succ_add]
      exact ha (n + 1) (by omega)
  simp only [fetchInstr, hfirst, andThen_next, hf, hfetched]
  cases hdecode : decode s.cfg (s.mem.read s.pc :: operands) with
  | ok p =>
    obtain ⟨hwf, enc, he, hbytes⟩ := decode_writesBack hdecode
    have hat : HoldsAt s.mem s.pc (enc ++ p.2) := hbytes ▸ ⟨rfl, hstand⟩
    exact absurd (holdsAt_of_append hat) (hno _ enc hwf he)
  | error e =>
    rw [← hhead (form_length_ne_one hf hdecode)]

end Sys2Proof.Proofs

/-! PROOFS. The statements of spec/30_encoding.md. -/
namespace Sys2Proof.Settled

open Machine Claims Proofs

/-- Settles O1: an instruction that has an opcode byte has an encoding, of its format's length, which `decode_encoding`
reads back. -/
theorem decodeEncodeRoundTrip : Obligations.DecodeEncodeRoundTrip := by
  intro cfg i rest hd hwf
  obtain ⟨-, hencodable⟩ := Bool.and_eq_true_iff.1 hwf
  obtain ⟨bytes, he⟩ := Option.isSome_iff_exists.1 ((isSome_encode cfg i).trans hencodable)
  exact ⟨bytes, he, length_of_encode he, decode_encoding hd hwf he rest⟩

/-- Settles O2: what each opcode byte's form reads is written back as it stood. -/
theorem decodedBytesAreTheEncoding : Obligations.DecodedBytesAreTheEncoding :=
  fun _ _ _ _ h => decode_writesBack h

/-- Settles O3: where the opcode byte selects no form the fetch ends there; where it does, what was read decodes to
nothing, or it would be an encoding that stands at pc. -/
theorem undefinedBytesFault : Obligations.UndefinedBytesFault := by
  intro s hs hd ha hno
  rw [step_of_aboutToFetch hs, isOpcode_iff hd]
  refine ⟨fun hnone => ?_, fun ⟨f, hf⟩ => ?_⟩
  · have hf : formOf s.cfg (s.mem.read s.pc) = none := by simpa [Option.eq_none_iff_forall_ne_some] using hnone
    rw [fetchInstr_of_undefined (by simpa using ha 0 (by decide)) hf, andThen_fault]
  · rw [fetchInstr_of_reserved ha hno hf, andThen_fault]

/-- Settles O4: R145's table and R140's list are the map's, and without parameters the map alone gives a byte its
meaning. -/
theorem opcodesOfEachVariant : Obligations.OpcodesOfEachVariant := by
  refine ⟨fun cfg b h => ?_, fun b => ?_, rfl, ?_, ?_⟩
  · rw [isOpcode_iff_of_noParameters h, mem_opcodesOf_iff]
  · rw [mem_undefinedOpcodes_iff, mem_opcodesOf_iff]
    simp [Option.eq_none_iff_forall_ne_some, has_of_largest]
  · intro r k
    simp only [List.forall_mem_cons]
    exact ⟨rfl, rfl, rfl, rfl, nofun⟩
  · intro f k
    simp only [List.forall_mem_cons]
    exact ⟨rfl, rfl, rfl, nofun⟩

/-- Settles O5: each row's bytes are its instruction's encoding under these parameters, which reads back. -/
theorem sampleBytesDecode : Obligations.SampleBytesDecode := by
  intro r hr
  have hrow : r.2.wellFormed Config.reference = true ∧ encode Config.reference r.2 = some r.1 := by
    revert r
    decide
  obtain ⟨hwf, he⟩ := hrow
  simpa using decode_encoding (by decide) hwf he []

end Sys2Proof.Settled

/-! SUPPORT. The flag functions are those of R45 and R46, bit for bit, and V and C say where the exact result lies. -/
namespace Sys2Proof.Proofs

open Machine Claims

/-! ## The operations as the spec writes them -/

section Operations

variable {w : Nat}

/-- Counting the 1 bits from the right is counting the positions that hold one. -/
theorem onesBelow_eq_length (v : BitVec w) (n : Nat) :
    onesBelow v n = ((List.range n).filter v.getLsbD).length := by
  induction n with
  | zero => rfl
  | succ n ih =>
    rw [onesBelow, ih, List.range_succ, List.filter_append, List.length_append]
    cases h : v.getLsbD n <;> simp [h]

theorem parityEven_eq_ones (v : BitVec w) : parityEven v = decide (ones v % 2 = 0) := by
  rw [parityEven, onesBelow_eq_length, ones]

theorem szp_eq (f : Flags) (res : BitVec w) : f.szp res = szp res f := by
  have hz : res = 0#w ↔ res.toNat = 0 := BitVec.toNat_inj.symm
  simp only [Flags.szp, szp, parityEven_eq_ones, BitVec.msb_eq_getLsbD_last, hz]

/-- A residue modulo the word size is the word itself. -/
theorem ofNat_toNat_emod (d : Int) : BitVec.ofNat w (d % 2 ^ w).toNat = BitVec.ofInt w d := by
  apply BitVec.eq_of_toNat_eq
  have hw : (0 : Int) < 2 ^ w := by positivity
  have hlt : (d % 2 ^ w).toNat < 2 ^ w := by
    have := Int.emod_lt_of_pos d hw
    zify
    omega
  simp [Nat.mod_eq_of_lt hlt]

theorem addFlags_eq_add (a b : BitVec w) (cin : Bool) (f : Flags) : addFlags a b cin f = add a b cin f := by
  have hres (n : Nat) : BitVec.ofNat w (n % 2 ^ w) = BitVec.ofNat w n := by simp [BitVec.toNat_eq]
  simp [addFlags, add, szp_eq, hres, BitVec.msb_eq_getLsbD_last, Bool.beq_eq_decide_eq, bne]

theorem subFlags_eq_sub (a b : BitVec w) (bin : Bool) (f : Flags) : subFlags a b bin f = sub a b bin f := by
  simp [subFlags, sub, szp_eq, ofNat_toNat_emod, BitVec.msb_eq_getLsbD_last, Bool.beq_eq_decide_eq, bne]

theorem opAdd_eq : (opAdd : Op2 w) = fun a b f => add a b false f :=
  funext₃ fun a b f => addFlags_eq_add a b false f

theorem opAdc_eq : (opAdc : Op2 w) = fun a b f => add a b f.c f :=
  funext₃ fun a b f => addFlags_eq_add a b f.c f

theorem opSub_eq : (opSub : Op2 w) = fun a b f => sub a b false f :=
  funext₃ fun a b f => subFlags_eq_sub a b false f

theorem opSbc_eq : (opSbc : Op2 w) = fun a b f => sub a b f.c f :=
  funext₃ fun a b f => subFlags_eq_sub a b f.c f

theorem opAnd_eq : (opAnd : Op2 w) = fun a b f => logic (a &&& b) f := by
  funext a b f
  simp only [opAnd, logic, szp_eq]

theorem opOrr_eq : (opOrr : Op2 w) = fun a b f => logic (a ||| b) f := by
  funext a b f
  simp only [opOrr, logic, szp_eq]

theorem opXor_eq : (opXor : Op2 w) = fun a b f => logic (a ^^^ b) f := by
  funext a b f
  simp only [opXor, logic, szp_eq]

theorem opCom_eq (v : BitVec w) (f : Flags) : opCom v f = logic (~~~v) f := by
  simp only [opCom, logic, szp_eq]

theorem opNeg_eq (v : BitVec w) (f : Flags) : opNeg v f = sub 0#w v false f := subFlags_eq_sub 0#w v false f

theorem shifted_eq_shift (res : BitVec w) (out : Bool) (f : Flags) : shifted res out f = shift res out f := by
  simp only [shifted, shift, szp_eq]

end Operations

/-! ### Shifts and rotates -/

section Shifts

variable {n : Nat} (v : BitVec (n + 1)) (b : Bool) (f : Flags)

theorem shiftLeft_or_eq_enterRight : v <<< 1 ||| (BitVec.ofBool b).setWidth (n + 1) = enterRight n v b := by
  ext i hi
  cases i with
  | zero => simp [enterRight, BitVec.getElem_append]
  | succ i => simp [enterRight, BitVec.getElem_append, BitVec.getLsbD_eq_getElem (show i < n + 1 by omega)]

theorem ushiftRight_or_eq_enterLeft : v >>> 1 ||| (BitVec.ofBool b).setWidth (n + 1) <<< n = enterLeft n v b := by
  ext i hi
  by_cases hin : i < n
  · simp [enterLeft, BitVec.getElem_append, hin]
  · obtain rfl : i = n := by omega
    simp [enterLeft, BitVec.getElem_append]

theorem opAsl_eq : opAsl v f = shift (enterRight n v false) (v.getLsbD n) f := by
  rw [opAsl, shifted_eq_shift, ← shiftLeft_or_eq_enterRight]
  simp [BitVec.msb_eq_getLsbD_last]

theorem opLsr_eq : opLsr v f = shift (enterLeft n v false) (v.getLsbD 0) f := by
  rw [opLsr, shifted_eq_shift, ← ushiftRight_or_eq_enterLeft]
  simp

theorem opRol_eq (throughCarry : Bool) :
    opRol throughCarry v f =
      shift (enterRight n v (if throughCarry then f.c else v.getLsbD n)) (v.getLsbD n) f := by
  rw [opRol, shifted_eq_shift, shiftLeft_or_eq_enterRight]
  simp [BitVec.msb_eq_getLsbD_last]

theorem opRor_eq (throughCarry : Bool) :
    opRor throughCarry v f =
      shift (enterLeft n v (if throughCarry then f.c else v.getLsbD 0)) (v.getLsbD 0) f := by
  rw [opRor, shifted_eq_shift, Nat.add_sub_cancel, ushiftRight_or_eq_enterLeft]

end Shifts

/-! ## Overflow -/

section Overflow

variable {n : Nat}

/-- The signed value from the unsigned one, in halves of the range. -/
theorem toInt_eq_of_half (v : BitVec (n + 1)) :
    v.toInt = if v.toNat < 2 ^ n then (v.toNat : Int) else v.toNat - 2 * (2 ^ n : Nat) := by
  rw [BitVec.toInt_eq_toNat_cond, pow_succ]
  split <;> split <;> omega

theorem addFlags_v_iff_signs (a b : BitVec (n + 1)) (cin : Bool) (f : Flags) :
    (addFlags a b cin f).2.v = true ↔
      (2 ^ n ≤ a.toNat ↔ 2 ^ n ≤ b.toNat) ∧ ¬ (2 ^ n ≤ (addFlags a b cin f).1.toNat ↔ 2 ^ n ≤ a.toNat) := by
  simp only [addFlags, BitVec.msb_eq_decide, Nat.add_sub_cancel, Bool.and_eq_true, beq_iff_eq, bne_iff_ne, ne_eq,
    decide_eq_decide]

theorem subFlags_v_iff_signs (a b : BitVec (n + 1)) (bin : Bool) (f : Flags) :
    (subFlags a b bin f).2.v = true ↔
      ¬ (2 ^ n ≤ a.toNat ↔ 2 ^ n ≤ b.toNat) ∧ ¬ (2 ^ n ≤ (subFlags a b bin f).1.toNat ↔ 2 ^ n ≤ a.toNat) := by
  simp only [subFlags, BitVec.msb_eq_decide, Nat.add_sub_cancel, Bool.and_eq_true, bne_iff_ne, ne_eq, decide_eq_decide]

/-- V says that the exact signed sum does not fit (R187): the operands have one sign and the result has the other. -/
theorem addFlags_v_iff (a b : BitVec (n + 1)) (cin : Bool) (f : Flags) :
    (addFlags a b cin f).2.v = true ↔
      a.toInt + b.toInt + cin.toNat < -2 ^ n ∨ 2 ^ n ≤ a.toInt + b.toInt + cin.toNat := by
  have hexact := addFlags_exact a b cin f
  have hcin := Bool.toNat_le cin
  have ha := a.isLt
  have hb := b.isLt
  have hr := (addFlags a b cin f).1.isLt
  have hcast : (2 : Int) ^ n = (2 ^ n : Nat) := by push_cast; rfl
  rw [addFlags_v_iff_signs, toInt_eq_of_half, toInt_eq_of_half, hcast]
  rw [pow_succ] at *
  generalize 2 ^ n = half at *
  cases hc : (addFlags a b cin f).2.c <;> simp only [hc, Bool.toNat_true, Bool.toNat_false] at hexact <;> omega

/-- V says that the exact signed difference does not fit (R187): the operands differ in sign, and so does the result
from the first. -/
theorem subFlags_v_iff (a b : BitVec (n + 1)) (bin : Bool) (f : Flags) :
    (subFlags a b bin f).2.v = true ↔
      a.toInt - b.toInt - bin.toNat < -2 ^ n ∨ 2 ^ n ≤ a.toInt - b.toInt - bin.toNat := by
  have hexact := subFlags_exact a b bin f
  have hbin := Bool.toNat_le bin
  have ha := a.isLt
  have hb := b.isLt
  have hr := (subFlags a b bin f).1.isLt
  have hcast : (2 : Int) ^ n = (2 ^ n : Nat) := by push_cast; rfl
  rw [subFlags_v_iff_signs, toInt_eq_of_half, toInt_eq_of_half, hcast]
  rw [pow_succ] at *
  generalize 2 ^ n = half at *
  cases hc : (subFlags a b bin f).2.c <;> simp only [hc, Bool.toNat_true, Bool.toNat_false] at hexact <;> omega

theorem addFlags_c_iff {w : Nat} (a b : BitVec w) (cin : Bool) (f : Flags) :
    (addFlags a b cin f).2.c = true ↔ 2 ^ w ≤ a.toNat + b.toNat + cin.toNat := by
  simp [addFlags]

theorem subFlags_c_iff {w : Nat} (a b : BitVec w) (bin : Bool) (f : Flags) :
    (subFlags a b bin f).2.c = true ↔ a.toNat < b.toNat + bin.toNat := by
  simp only [subFlags, decide_eq_true_eq]
  omega

end Overflow

end Sys2Proof.Proofs

/-! SUPPORT. Instructions on A: what the constant and register forms share, how bytes and words chain, and what V and C
report. -/
namespace Sys2Proof.Proofs

open Machine Claims

/-! ## The register forms -/

/-- Where an 8-bit operand names memory and the access is denied, its read is that fault (R82, R499). -/
theorem op8Read_of_denied {r : Reg8} {s : State} {before after : List Access} {q : Access}
    (hq : readsM r s = before ++ q :: after) (hd : Denied s.cfg q) : op8Read r s = .fault (.accessFault q) := by
  have hmem : q ∈ readsM r s := hq ▸ by simp
  by_cases hr : r = .m
  · subst hr
    obtain rfl : q = readOf s.x.r0 .byte := by simpa [readsM] using hmem
    simp only [op8Read, memRead8, State.hl, access_of_claimsDenied hd, andThen_fault]
  · simp [readsM, hr] at hmem

/-- A row of a list of register forms: its code and encoding, and the operation on A and the operand read. -/
structure ReadsOperand (op : Byte) (f : Op2 8) (e : Instr × Reg8 × Byte) : Prop where
  code_eq : e.2.2 = op + e.2.1.code
  encodes : Encodes e.1 [e.2.2]
  exec_eq : ∀ s, exec e.1 s = andThen (op8Read e.2.1 s) fun b => .next (toA (f s.a b s.flag) 1#16 s)

theorem ReadsOperand.exec_next {op : Byte} {f : Op2 8} {e : Instr × Reg8 × Byte} (h : ReadsOperand op f e) {s : State}
    (hr : readable8 e.2.1 s) : exec e.1 s = .next (toA (f s.a (value8 e.2.1 s) s.flag) 1#16 s) := by
  rw [h.exec_eq, op8Read_value8 hr, andThen_next]

theorem registerForms_of_readsOperand {forms : List (Instr × Reg8 × Byte)} {op : Byte} {f : Op2 8}
    (h : ∀ e ∈ forms, ReadsOperand op f e) : RegisterForms forms op f := fun e he =>
  ⟨(h e he).code_eq, (h e he).encodes,
    fun s _ _ _ hq _ hd => by rw [(h e he).exec_eq, op8Read_of_denied hq hd, andThen_fault],
    fun _ hr => (h e he).exec_next hr⟩

theorem adForms_readsOperand : ∀ e ∈ adForms, ReadsOperand 0x80#8 opAdd e := by
  intro e he
  fin_cases he <;> exact ⟨rfl, fun _ => rfl, fun _ => rfl⟩

theorem acForms_readsOperand : ∀ e ∈ acForms, ReadsOperand 0x88#8 opAdc e := by
  intro e he
  fin_cases he <;> exact ⟨rfl, fun _ => rfl, fun _ => rfl⟩

theorem suForms_readsOperand : ∀ e ∈ suForms, ReadsOperand 0x90#8 opSub e := by
  intro e he
  fin_cases he <;> exact ⟨rfl, fun _ => rfl, fun _ => rfl⟩

theorem scForms_readsOperand : ∀ e ∈ scForms, ReadsOperand 0x98#8 opSbc e := by
  intro e he
  fin_cases he <;> exact ⟨rfl, fun _ => rfl, fun _ => rfl⟩

/-- A compare puts A back where the other rows put the result (R170). -/
theorem cpForms_readsOperand : ∀ e ∈ cpForms, ReadsOperand 0xA0#8 (fun a b f => (a, (opSub a b f).2)) e := by
  intro e he
  fin_cases he <;> exact ⟨rfl, fun _ => rfl, fun _ => rfl⟩

theorem anForms_readsOperand : ∀ e ∈ anForms, ReadsOperand 0xA8#8 opAnd e := by
  intro e he
  fin_cases he <;> exact ⟨rfl, fun _ => rfl, fun _ => rfl⟩

theorem orForms_readsOperand : ∀ e ∈ orForms, ReadsOperand 0xB0#8 opOrr e := by
  intro e he
  fin_cases he <;> exact ⟨rfl, fun _ => rfl, fun _ => rfl⟩

theorem xrForms_readsOperand : ∀ e ∈ xrForms, ReadsOperand 0xB8#8 opXor e := by
  intro e he
  fin_cases he <;> exact ⟨rfl, fun _ => rfl, fun _ => rfl⟩

/-! ## What an operation leaves in its destination and FLAG -/

@[simp] theorem alu8_a (op : Op2 8) (b : Byte) (n : Word) (s : State) : (alu8 op b n s).a = (op s.a b s.flag).1 := rfl

@[simp] theorem alu8_flag (op : Op2 8) (b : Byte) (n : Word) (s : State) :
    (alu8 op b n s).flag = (op s.a b s.flag).2 := rfl

@[simp] theorem word2_x (op : Op2 16) (rd : Reg16) (b n : Word) (s : State) :
    (word2 op rd b n s).x = s.x.set rd (op (s.x.get rd) b s.flag).1 := rfl

@[simp] theorem word2_flag (op : Op2 16) (rd : Reg16) (b n : Word) (s : State) :
    (word2 op rd b n s).flag = (op (s.x.get rd) b s.flag).2 := rfl

/-! ## Chains of bytes -/

section Chains

variable {sign : Int} {cin : Flags → Bool} {first next : Byte → Instr} {rest : List (Byte × Byte)}

/-- One instruction of a chain, where `sign` is 1 for sums and -1 for differences: of the exact result of A, the
constant and the carry that goes in, A keeps the low byte and C the carry or borrow that goes out. -/
def ByteStep (sign : Int) (cin : Flags → Bool) (mk : Byte → Instr) : Prop :=
  ∀ k s, ∃ t, exec (mk k) s = .next t ∧
    (t.a.toNat : Int) + sign * (256 * t.flag.c.toNat) = s.a.toNat + sign * (k.toNat + (cin s.flag).toNat)

/-- The outcome of a chain is one byte a pair, and these bytes with the last C make the exact result. -/
def ChainExact (sign : Int) (l : List (Byte × Byte)) (cin : Bool) (r : Res (List Byte × State)) : Prop :=
  ∃ bytes t, r = .next (bytes, t) ∧ bytes.length = l.length ∧
    (number bytes : Int) + sign * (256 ^ l.length * t.flag.c.toNat) =
      number (l.map (·.1)) + sign * (number (l.map (·.2)) + cin.toNat)

theorem byteStep_of_addFlags {mk : Byte → Instr}
    (h : ∀ k s, exec (mk k) s = alu8Const (fun a b f => addFlags a b (cin f) f) k s) : ByteStep 1 cin mk := by
  intro k s
  have hexact := addFlags_exact s.a k (cin s.flag) s.flag
  exact ⟨_, h k s, by simp only [alu8_a, alu8_flag]; omega⟩

theorem byteStep_of_subFlags {mk : Byte → Instr}
    (h : ∀ k s, exec (mk k) s = alu8Const (fun a b f => subFlags a b (cin f) f) k s) : ByteStep (-1) cin mk := by
  intro k s
  have hexact := subFlags_exact s.a k (cin s.flag) s.flag
  exact ⟨_, h k s, by simp only [alu8_a, alu8_flag]; omega⟩

/-- The first C goes in, the C between the two is both what the first pair gives out and what the others take in. -/
theorem chained_cons (hfirst : ByteStep sign cin first)
    (hrest : ∀ t, ChainExact sign rest t.flag.c (chained next next rest t)) (p : Byte × Byte) (s : State) :
    ChainExact sign (p :: rest) (cin s.flag) (chained first next (p :: rest) s) := by
  obtain ⟨t, ht, hbyte⟩ := hfirst p.2 { s with a := p.1 }
  obtain ⟨bytes, u, hu, hlength, hbytes⟩ := hrest t
  refine ⟨t.a :: bytes, u, by simp only [chained, ht, hu, andThen_next], by simp [hlength], ?_⟩
  simp only [List.map_cons, List.length_cons, number, pow_succ, Nat.cast_add, Nat.cast_mul, Nat.cast_ofNat] at hbyte ⊢
  linear_combination hbyte + 256 * hbytes

theorem chained_next (hnext : ByteStep sign Flags.c next) (l : List (Byte × Byte)) (s : State) :
    ChainExact sign l s.flag.c (chained next next l s) := by
  induction l generalizing s with
  | nil => exact ⟨[], s, rfl, rfl, by simp [number]⟩
  | cons p rest ih => exact chained_cons hnext ih p s

/-- The first pair takes no carry in, and there is one. -/
theorem chained_of_ne_nil (hfirst : ByteStep sign (fun _ => false) first) (hnext : ByteStep sign Flags.c next)
    {l : List (Byte × Byte)} (hl : l ≠ []) (s : State) : ChainExact sign l false (chained first next l s) := by
  obtain ⟨p, rest, rfl⟩ := List.exists_cons_of_ne_nil hl
  exact chained_cons hfirst (chained_next hnext rest) p s

end Chains

theorem chained_sum {l : List (Byte × Byte)} (hl : l ≠ []) (s : State) :
    ∃ r t, chained .adi .aci l s = .next (r, t) ∧ r.length = l.length ∧
      number r + 256 ^ l.length * t.flag.c.toNat = number (l.map (·.1)) + number (l.map (·.2)) := by
  have hadi : ByteStep 1 (fun _ => false) .adi := byteStep_of_addFlags fun _ _ => rfl
  have haci : ByteStep 1 Flags.c .aci := byteStep_of_addFlags fun _ _ => rfl
  obtain ⟨bytes, t, ht, hlength, hexact⟩ := chained_of_ne_nil hadi haci hl s
  refine ⟨bytes, t, ht, hlength, ?_⟩
  rw [Bool.toNat_false] at hexact
  zify
  linear_combination hexact

theorem chained_difference {l : List (Byte × Byte)} (hl : l ≠ []) (s : State) :
    ∃ r t, chained .sui .sci l s = .next (r, t) ∧ r.length = l.length ∧
      number r + number (l.map (·.2)) = number (l.map (·.1)) + 256 ^ l.length * t.flag.c.toNat := by
  have hsui : ByteStep (-1) (fun _ => false) .sui := byteStep_of_subFlags fun _ _ => rfl
  have hsci : ByteStep (-1) Flags.c .sci := byteStep_of_subFlags fun _ _ => rfl
  obtain ⟨bytes, t, ht, hlength, hexact⟩ := chained_of_ne_nil hsui hsci hl s
  refine ⟨bytes, t, ht, hlength, ?_⟩
  rw [Bool.toNat_false] at hexact
  zify
  linear_combination hexact

/-! ## Chains of two words -/

/-- The number of 32 bits in two registers. -/
def twoWords (hi lo : Reg16) (s : State) : Nat := (s.x.get hi).toNat * 65536 + (s.x.get lo).toNat

section Words

variable {lo hi : Reg16} (h : lo ≠ hi) (kl kh : Word) (s : State)

include h

/-- Two operations on different registers: each register holds its own result, and the second takes the first's
flags. -/
theorem word2_word2 (op op' : Op2 16) (n m : Word) :
    let first := op (s.x.get lo) kl s.flag
    let second := op' (s.x.get hi) kh first.2
    let t := word2 op' hi kh m (word2 op lo kl n s)
    t.x.get lo = first.1 ∧ t.x.get hi = second.1 ∧ t.flag = second.2 := by
  simp [Regs.get_set, h, h.symm]

theorem twoWords_sum :
    ∃ t u, exec (.addRk lo kl) s = .next t ∧ exec (.adcRk hi kh) t = .next u ∧
      twoWords hi lo u + 65536 ^ 2 * u.flag.c.toNat = twoWords hi lo s + (kh.toNat * 65536 + kl.toNat) := by
  refine ⟨word2 opAdd lo kl 4#16 s, word2 opAdc hi kh 4#16 _, rfl, rfl, ?_⟩
  obtain ⟨hlo, hhi, hflag⟩ := word2_word2 h kl kh s opAdd opAdc 4#16 4#16
  have hlow := addFlags_exact (s.x.get lo) kl false s.flag
  have hhigh := addFlags_exact (s.x.get hi) kh (opAdd (s.x.get lo) kl s.flag).2.c (opAdd (s.x.get lo) kl s.flag).2
  simp only [twoWords, hlo, hhi, hflag, opAdd, opAdc, Bool.toNat_false] at hlow hhigh ⊢
  omega

theorem twoWords_difference :
    ∃ t u, exec (.subRk lo kl) s = .next t ∧ exec (.sbcRk hi kh) t = .next u ∧
      twoWords hi lo u + (kh.toNat * 65536 + kl.toNat) = twoWords hi lo s + 65536 ^ 2 * u.flag.c.toNat := by
  refine ⟨word2 opSub lo kl 4#16 s, word2 opSbc hi kh 4#16 _, rfl, rfl, ?_⟩
  obtain ⟨hlo, hhi, hflag⟩ := word2_word2 h kl kh s opSub opSbc 4#16 4#16
  have hlow := subFlags_exact (s.x.get lo) kl false s.flag
  have hhigh := subFlags_exact (s.x.get hi) kh (opSub (s.x.get lo) kl s.flag).2.c (opSub (s.x.get lo) kl s.flag).2
  simp only [twoWords, hlo, hhi, hflag, opSub, opSbc, Bool.toNat_false] at hlow hhigh ⊢
  omega

end Words

/-! ## Overflow -/

section Reports

variable {n : Nat} {a b : BitVec (n + 1)} {cin : Bool} {f : Flags} {r : Res State} {t : State}

theorem reportsSum_of_addFlags (hr : r = .next t) (ht : t.flag = (addFlags a b cin f).2) : ReportsSum a b cin r :=
  ⟨t, hr, ht ▸ addFlags_v_iff a b cin f, ht ▸ addFlags_c_iff a b cin f⟩

theorem reportsDifference_of_subFlags (hr : r = .next t) (ht : t.flag = (subFlags a b cin f).2) :
    ReportsDifference a b cin r :=
  ⟨t, hr, ht ▸ subFlags_v_iff a b cin f, ht ▸ subFlags_c_iff a b cin f⟩

end Reports

end Sys2Proof.Proofs

/-! PROOFS. The statements of spec/40_alu8.md. -/
namespace Sys2Proof.Settled

open Machine Claims Proofs

/-- Settles O30: `addFlags` is R45's AddFlags, and every form applies it to A and its operand. -/
theorem addToAccumulator : Obligations.AddToAccumulator := by
  unfold Obligations.AddToAccumulator
  rw [← opAdd_eq, ← opAdc_eq]
  exact ⟨fun _ _ => ⟨fun _ => rfl, rfl⟩, registerForms_of_readsOperand adForms_readsOperand,
    fun _ _ => ⟨fun _ => rfl, rfl⟩, registerForms_of_readsOperand acForms_readsOperand⟩

/-- Settles O31: `subFlags` is R45's SubFlags, and every form applies it to A and its operand. -/
theorem subtractFromAccumulator : Obligations.SubtractFromAccumulator := by
  unfold Obligations.SubtractFromAccumulator
  rw [← opSub_eq, ← opSbc_eq]
  exact ⟨fun _ _ => ⟨fun _ => rfl, rfl⟩, registerForms_of_readsOperand suForms_readsOperand,
    fun _ _ => ⟨fun _ => rfl, rfl⟩, registerForms_of_readsOperand scForms_readsOperand⟩

/-- Settles O32: a compare writes A with what it holds. -/
theorem compareAccumulator : Obligations.CompareAccumulator := by
  unfold Obligations.CompareAccumulator
  simp only [← subFlags_eq_sub]
  exact ⟨fun _ _ => ⟨fun _ => rfl, rfl⟩, registerForms_of_readsOperand cpForms_readsOperand⟩

/-- Settles O33: the three operations leave R45's SZP and no other flag. -/
theorem logicOnAccumulator : Obligations.LogicOnAccumulator := by
  unfold Obligations.LogicOnAccumulator
  rw [← opAnd_eq, ← opOrr_eq, ← opXor_eq]
  exact ⟨fun _ _ => ⟨fun _ => rfl, rfl⟩, registerForms_of_readsOperand anForms_readsOperand,
    fun _ _ => ⟨fun _ => rfl, rfl⟩, registerForms_of_readsOperand orForms_readsOperand,
    fun _ _ => ⟨fun _ => rfl, rfl⟩, registerForms_of_readsOperand xrForms_readsOperand⟩

/-- Settles O34: each shift and rotate moves the bits as R180 to R183 write them. -/
theorem accumulatorOperations : Obligations.AccumulatorOperations := by
  refine ⟨fun _ => rfl, fun _ => rfl, fun _ => rfl, fun _ => rfl, fun _ => rfl, fun _ => rfl, fun s => ?_⟩
  simp only [← opAsl_eq, ← opLsr_eq, ← opRol_eq, ← opRor_eq, ← opCom_eq, ← opNeg_eq]
  exact ⟨rfl, rfl, rfl, rfl, rfl, rfl⟩

/-- Settles O35: every C that goes out goes in again a byte or word higher, so what remains is the last one. -/
theorem multiByteArithmetic : Obligations.MultiByteArithmetic :=
  ⟨fun _ s hl => ⟨chained_sum hl s, chained_difference hl s⟩,
    fun _ _ kl kh s hne => ⟨twoWords_sum hne kl kh s, twoWords_difference hne kl kh s⟩⟩

/-- Settles O36: every form ends with the flags of a sum or a difference, whose V and C are exact. -/
theorem overflowIsReported : Obligations.OverflowIsReported := by
  refine ⟨fun k s => ?_, fun s => ⟨?_, ?_, ?_, ?_, ?_⟩, fun r q k s => ?_⟩
  · exact ⟨reportsSum_of_addFlags rfl rfl, reportsSum_of_addFlags rfl rfl, reportsDifference_of_subFlags rfl rfl,
      reportsDifference_of_subFlags rfl rfl, reportsDifference_of_subFlags rfl rfl,
      reportsDifference_of_subFlags rfl rfl⟩
  · exact fun e he hr => reportsSum_of_addFlags ((adForms_readsOperand e he).exec_next hr) rfl
  · exact fun e he hr => reportsSum_of_addFlags ((acForms_readsOperand e he).exec_next hr) rfl
  · exact fun e he hr => reportsDifference_of_subFlags ((suForms_readsOperand e he).exec_next hr) rfl
  · exact fun e he hr => reportsDifference_of_subFlags ((scForms_readsOperand e he).exec_next hr) rfl
  · exact fun e he hr => reportsDifference_of_subFlags ((cpForms_readsOperand e he).exec_next hr) rfl
  · exact ⟨reportsSum_of_addFlags rfl rfl, reportsSum_of_addFlags rfl rfl, reportsDifference_of_subFlags rfl rfl,
      reportsDifference_of_subFlags rfl rfl, reportsDifference_of_subFlags rfl rfl,
      reportsSum_of_addFlags rfl rfl, reportsSum_of_addFlags rfl rfl, reportsDifference_of_subFlags rfl rfl,
      reportsDifference_of_subFlags rfl rfl, reportsDifference_of_subFlags rfl rfl,
      reportsDifference_of_subFlags rfl rfl⟩

end Sys2Proof.Settled

/-! SUPPORT. Operations as the accesses they make and the value they answer: the same list says in which order they
fault and when they complete. -/
namespace Sys2Proof.Proofs

open Machine Claims

/-! ## A value after accesses -/

section AfterAccesses

variable {α β : Type} {cfg : Config} {a : α}

/-- The value, once every access of the list has been let through in this order (R499). -/
def afterAccesses (cfg : Config) (qs : List Access) (a : α) : Res α :=
  match qs with
  | [] => .next a
  | q :: rest => andThen (access cfg q) fun _ => afterAccesses cfg rest a

theorem afterAccesses_of_allows {qs : List Access} (h : ∀ q ∈ qs, allows cfg q = true) :
    afterAccesses cfg qs a = .next a := by
  induction qs with
  | nil => rfl
  | cons q rest ih =>
    obtain ⟨hq, hrest⟩ := List.forall_mem_cons.1 h
    rw [afterAccesses, access_of_allows hq, andThen_next, ih hrest]

/-- The first access that is denied is the fault, where those before it are let through. -/
theorem afterAccesses_of_denied {before after : List Access} {q : Access} (h : ∀ p ∈ before, allows cfg p = true)
    (hd : Denied cfg q) : afterAccesses cfg (before ++ q :: after) a = .fault (.accessFault q) := by
  induction before with
  | nil => rw [List.nil_append, afterAccesses, access_of_claimsDenied hd, andThen_fault]
  | cons p rest ih =>
    obtain ⟨hp, hrest⟩ := List.forall_mem_cons.1 h
    rw [List.cons_append, afterAccesses, access_of_allows hp, andThen_next, ih hrest]

/-- Going on with more accesses puts them after the first ones. -/
theorem andThen_afterAccesses {k : α → Res β} {b : β} (qs : List Access) {more : List Access}
    (hk : k a = afterAccesses cfg more b) : andThen (afterAccesses cfg qs a) k = afterAccesses cfg (qs ++ more) b := by
  induction qs with
  | nil => exact hk
  | cons q rest ih =>
    rw [List.cons_append, afterAccesses, afterAccesses, ← ih]
    cases access cfg q <;> rfl

/-- Going on without an access changes the value alone. -/
theorem andThen_afterAccesses_next {k : α → Res β} {b : β} (qs : List Access) (hk : k a = .next b) :
    andThen (afterAccesses cfg qs a) k = afterAccesses cfg qs b := by
  rw [andThen_afterAccesses (more := []) qs hk, List.append_nil]

/-- An instruction that answers after a list of accesses faults in the order of the list. -/
theorem faultsInOrder_of_afterAccesses {i : Instr} {qs : State → List Access} {res : State → State}
    (h : ∀ s, exec i s = afterAccesses s.cfg (qs s) (res s)) : FaultsInOrder i qs := fun s _ _ _ hq hbefore hd => by
  rw [h, hq, afterAccesses_of_denied hbefore hd]

end AfterAccesses

/-! ## The shared operations -/

section Shapes

variable (s : State)

theorem memRead8_eq (a : Word) : memRead8 a s = afterAccesses s.cfg [readOf a .byte] (s.mem.read a) := rfl

theorem memWrite8_eq (a : Word) (v : Byte) :
    memWrite8 a v s = afterAccesses s.cfg [writeOf a .byte] (s.setMem (s.mem.write a v)) := rfl

theorem push8_eq (v : Byte) :
    push8 v s = afterAccesses s.cfg [writeOf (s.sp - 1#16) .byte]
      ((s.setSp (s.sp - 1#16)).setMem (s.mem.write (s.sp - 1#16) v)) := rfl

theorem pull8_eq : pull8 s = afterAccesses s.cfg [readOf s.sp .byte] (s.mem.read s.sp, s.setSp (s.sp + 1#16)) := by
  rw [pull8, memRead8_eq]
  exact andThen_afterAccesses_next _ rfl

end Shapes

/-! ## 8-bit operands -/

/-- The state with an 8-bit operand written, no access checked. -/
def put8 (r : Reg8) (v : Byte) (s : State) : State :=
  match r with
  | .a => s.setA v
  | .m => s.setMem (s.mem.write s.hl v)
  | _ => s.setX (s.x.set (pairOf r) (putHalf r v (s.x.get (pairOf r))))

section Operands

variable (r : Reg8) (v : Byte) (s : State)

theorem op8Read_eq : op8Read r s = afterAccesses s.cfg (readsM r s) (value8 r s) := by
  cases r <;> rfl

theorem op8Write_eq : op8Write r v s = afterAccesses s.cfg (writesM r s) (put8 r v s) := by
  cases r <;> rfl

theorem put8_writes8 : Writes8 r v s (put8 r v s) := by
  cases r with
  | m => exact ⟨write_stores8 s.mem s.hl v, rfl⟩
  | a | h | l | b | c | d | e => rfl

@[simp] theorem put8_sp : (put8 r v s).sp = s.sp := by
  cases r <;> rfl

@[simp] theorem put8_advance (n : Word) : put8 r v (s.advance n) = (put8 r v s).advance n := by
  cases r <;> rfl

@[simp] theorem value8_advance (n : Word) : value8 r (s.advance n) = value8 r s := by
  cases r <;> rfl

/-- The operand written is what it then reads; M at the address it was written to, HL being kept. -/
@[simp] theorem value8_put8 : value8 r (put8 r v s) = v := by
  cases r with
  | a => rfl
  | m => exact Memory.read_write_same s.mem s.hl v
  | h | b | d => exact high_cat _ _
  | l | c | e => exact low_cat _ _

theorem readable8_iff {r : Reg8} {s : State} : readable8 r s ↔ ∀ q ∈ readsM r s, allows s.cfg q = true := by
  by_cases hr : r = .m <;> simp [readable8, readsM, hr]

theorem writable8_iff {r : Reg8} {s : State} : writable8 r s ↔ ∀ q ∈ writesM r s, allows s.cfg q = true := by
  by_cases hr : r = .m <;> simp [writable8, writesM, hr]

end Operands

end Sys2Proof.Proofs

/-! SUPPORT. 8-bit transfers: what each form does, and pushes undone by pulls. -/
namespace Sys2Proof.Proofs

open Machine Claims

/-! ## The register forms -/

section Transfers

variable (r : Reg8) (s : State)

/-- R224: the exchange is a write of the operand into the state whose A already holds what was read. -/
theorem swapA_eq :
    swapA r s = afterAccesses s.cfg (readsM r s ++ writesM r s) (put8 r s.a ((s.setA (value8 r s)).advance 1#16)) := by
  rw [swapA, op8Read_eq]
  refine andThen_afterAccesses _ ?_
  rw [op8Write_eq]
  refine andThen_afterAccesses_next _ (congrArg _ ?_)
  cases r <;> rfl

theorem loadA_eq : loadA r s = afterAccesses s.cfg (readsM r s) ((s.setA (value8 r s)).advance 1#16) := by
  rw [loadA, op8Read_eq]
  exact andThen_afterAccesses_next _ rfl

theorem storeA_eq : storeA r s = afterAccesses s.cfg (writesM r s) (put8 r s.a (s.advance 1#16)) := by
  rw [storeA, op8Write_eq]
  exact andThen_afterAccesses_next _ (congrArg _ (put8_advance r s.a s 1#16).symm)

/-- R228: HL is the same before and after SP moves, and so is the address PLM writes. -/
theorem pullReg8_eq :
    pullReg8 r s = afterAccesses s.cfg (readOf s.sp .byte :: writesM r s)
      (put8 r (s.mem.read s.sp) ((s.setSp (s.sp + 1#16)).advance 1#16)) := by
  rw [pullReg8, pull8_eq]
  refine andThen_afterAccesses _ ?_
  rw [op8Write_eq]
  exact andThen_afterAccesses_next _ (congrArg _ (put8_advance r _ _ 1#16).symm)

theorem pushReg8_eq :
    pushReg8 r s = afterAccesses s.cfg (readsM r s ++ [writeOf (s.sp - 1#16) .byte])
      (((s.setSp (s.sp - 1#16)).setMem (s.mem.write (s.sp - 1#16) (value8 r s))).advance 1#16) := by
  rw [pushReg8, op8Read_eq]
  refine andThen_afterAccesses _ ?_
  rw [push8_eq]
  exact andThen_afterAccesses_next _ rfl

end Transfers

/-- A row of a list of register forms: its code and encoding, and the shared operation it is on its operand. -/
structure RowOf (op : Byte) (shared : Reg8 → State → Res State) (e : Instr × Reg8 × Byte) : Prop where
  code_eq : e.2.2 = op + e.2.1.code
  encodes : Encodes e.1 [e.2.2]
  exec_eq : ∀ s, exec e.1 s = shared e.2.1 s

theorem swForms_rowOf : ∀ e ∈ swForms, RowOf 0x08#8 swapA e := by
  intro e he
  fin_cases he <;> exact ⟨rfl, fun _ => rfl, fun _ => rfl⟩

theorem trAForms_rowOf : ∀ e ∈ trAForms, RowOf 0x20#8 loadA e := by
  intro e he
  fin_cases he <;> exact ⟨rfl, fun _ => rfl, fun _ => rfl⟩

theorem tArForms_rowOf : ∀ e ∈ tArForms, RowOf 0x28#8 storeA e := by
  intro e he
  fin_cases he <;> exact ⟨rfl, fun _ => rfl, fun _ => rfl⟩

theorem plForms_rowOf : ∀ e ∈ plForms, RowOf 0x30#8 pullReg8 e := by
  intro e he
  fin_cases he <;> exact ⟨rfl, fun _ => rfl, fun _ => rfl⟩

theorem phForms_rowOf : ∀ e ∈ phForms, RowOf 0x38#8 pushReg8 e := by
  intro e he
  fin_cases he <;> exact ⟨rfl, fun _ => rfl, fun _ => rfl⟩

section Completion

variable {r : Reg8} {s : State}

theorem pullReg8_next (hread : allows s.cfg (readOf s.sp .byte) = true) (hw : writable8 r s) :
    pullReg8 r s = .next (put8 r (s.mem.read s.sp) ((s.setSp (s.sp + 1#16)).advance 1#16)) := by
  rw [pullReg8_eq, afterAccesses_of_allows (List.forall_mem_cons.2 ⟨hread, writable8_iff.1 hw⟩)]

theorem pushReg8_next (hr : readable8 r s) (hwrite : allows s.cfg (writeOf (s.sp - 1#16) .byte) = true) :
    pushReg8 r s =
      .next (((s.setSp (s.sp - 1#16)).setMem (s.mem.write (s.sp - 1#16) (value8 r s))).advance 1#16) := by
  rw [pushReg8_eq, afterAccesses_of_allows
    (List.forall_mem_append.2 ⟨readable8_iff.1 hr, List.forall_mem_singleton.2 hwrite⟩)]

end Completion

/-! ## Pushes undone by pulls -/

/-- R88, R89: the byte read by one operand's push is in the operand of the pull, and SP is back. The push keeps HL and
the parameters, so what may be written before it may be written after it. -/
theorem pullReg8_of_pushReg8 {r q : Reg8} {s : State} (hr : readable8 r s) (hq : writable8 q s)
    (hwrite : allows s.cfg (writeOf (s.sp - 1#16) .byte) = true)
    (hread : allows s.cfg (readOf (s.sp - 1#16) .byte) = true) :
    ∃ t u, pushReg8 r s = .next t ∧ pullReg8 q t = .next u ∧ value8 q u = value8 r s ∧ u.sp = s.sp := by
  refine ⟨_, _, pushReg8_next hr hwrite, pullReg8_next hread hq, ?_, ?_⟩
  · simp only [put8_advance, value8_advance, value8_put8, State.advance_mem, State.setMem_mem, State.advance_sp,
      State.setMem_sp, State.setSp_sp, Memory.read_write_same]
  · simp

/-- The state a word pushed and the pc moved on by `n` lead to. -/
def pushed16 (w n : Word) (s : State) : State :=
  ((s.setSp (s.sp - 2#16)).setMem (s.withWord (s.sp - 2#16) w)).advance n

theorem push16_advance_next (w n : Word) {s : State} (hwrite : allows s.cfg (writeOf (s.sp - 2#16) .word) = true) :
    (andThen (push16 w s) fun t => .next (t.advance n)) = .next (pushed16 w n s) := by
  rw [push16_eq_next.2 ⟨hwrite, rfl⟩, andThen_next, pushed16]

/-- R90, R91: the word pushed is the one at SP, and its pull moves SP back over it. -/
theorem pull16_pushed16 (w n : Word) {s : State} (hread : allows s.cfg (readOf (s.sp - 2#16) .word) = true) :
    pull16 (pushed16 w n s) = .next (w, (pushed16 w n s).setSp s.sp) := by
  have hword : (pushed16 w n s).wordAt (pushed16 w n s).sp = w :=
    (wordAt_eq_word _ _).trans (word_of_stores16 (withWord_stores16 s _ w))
  have hback : (pushed16 w n s).sp + 2#16 = s.sp := BitVec.sub_add_cancel s.sp 2#16
  exact pull16_eq_next.2 ⟨hread, by rw [hword, hback]⟩

/-- The word pushed by one instruction is pulled by another, with SP as it was, whatever the pull does with both. -/
theorem exec_pull_of_push {push pull : Instr} {w n : Word} {s : State} {keep : Word × State → State}
    (hpush : exec push s = andThen (push16 w s) fun t => .next (t.advance n))
    (hpull : ∀ t, exec pull t = andThen (pull16 t) fun p => .next (keep p))
    (hwrite : allows s.cfg (writeOf (s.sp - 2#16) .word) = true)
    (hread : allows s.cfg (readOf (s.sp - 2#16) .word) = true) :
    ∃ t v, exec push s = .next t ∧ exec pull t = .next (keep (w, v)) ∧ v.sp = s.sp := by
  refine ⟨_, (pushed16 w n s).setSp s.sp, hpush.trans (push16_advance_next w n hwrite), ?_, rfl⟩
  rw [hpull, pull16_pushed16 w n hread, andThen_next]

/-! ## Load and store at a constant address -/

theorem wordBytes_eq_constant (cfg : Config) (k : Word) : wordBytes cfg.byteOrder k = constant cfg k := by
  unfold constant
  cases cfg.byteOrder <;> rfl

theorem execLda_eq (k : Word) (s : State) :
    exec (.lda k) s = afterAccesses s.cfg [readOf k .byte] ((s.setA (s.mem.read k)).advance 3#16) := by
  change andThen (memRead8 k s) _ = _
  rw [memRead8_eq]
  exact andThen_afterAccesses_next _ rfl

theorem execSta_eq (k : Word) (s : State) :
    exec (.sta k) s = afterAccesses s.cfg [writeOf k .byte] ((s.setMem (s.mem.write k s.a)).advance 3#16) := by
  change andThen (memWrite8 k s.a s) _ = _
  rw [memWrite8_eq]
  exact andThen_afterAccesses_next _ rfl

end Sys2Proof.Proofs

/-! PROOFS. The statements of spec/41_move8.md. -/
namespace Sys2Proof.Settled

open Machine Claims Proofs

/-- Settles O25: the pull reads where the push stored, and its write of the register is read back. -/
theorem pushThenPull : Obligations.PushThenPull := by
  refine ⟨fun e he g hg s hr hw hwrite hread => ?_, fun r q f g s hwrite hread => ⟨?_, ?_, ?_, ?_⟩⟩
  · obtain ⟨t, u, ht, hu, hvalue, hsp⟩ := pullReg8_of_pushReg8 hr hw hwrite hread
    exact ⟨t, u, ((phForms_rowOf e he).exec_eq s).trans ht, ((plForms_rowOf g hg).exec_eq t).trans hu, hvalue, hsp⟩
  · obtain ⟨t, v, ht, hu, hsp⟩ := exec_pull_of_push (push := .pshR r) (pull := .pulR q) rfl (fun _ => rfl) hwrite hread
    exact ⟨t, _, ht, hu, Regs.get_set_same v.x q _, hsp⟩
  · obtain ⟨t, v, ht, hu, hsp⟩ := exec_pull_of_push (push := .pshR r) (pull := .pulF g) rfl (fun _ => rfl) hwrite hread
    exact ⟨t, _, ht, hu, FRegs.get_set_same v.f g _, hsp⟩
  · obtain ⟨t, v, ht, hu, hsp⟩ := exec_pull_of_push (push := .pshF f) (pull := .pulR q) rfl (fun _ => rfl) hwrite hread
    exact ⟨t, _, ht, hu, Regs.get_set_same v.x q _, hsp⟩
  · obtain ⟨t, v, ht, hu, hsp⟩ := exec_pull_of_push (push := .pshF f) (pull := .pulF g) rfl (fun _ => rfl) hwrite hread
    exact ⟨t, _, ht, hu, FRegs.get_set_same v.f g _, hsp⟩

/-- Settles O38: the operand is written into the state whose A holds what was read, after both accesses. -/
theorem swapWithAccumulator : Obligations.SwapWithAccumulator := by
  intro e he
  have hrow := swForms_rowOf e he
  have hexec (s : State) := (hrow.exec_eq s).trans (swapA_eq e.2.1 s)
  refine ⟨hrow.code_eq, hrow.encodes, faultsInOrder_of_afterAccesses hexec, fun s hr hw => ?_⟩
  have hclear := List.forall_mem_append.2 ⟨readable8_iff.1 hr, writable8_iff.1 hw⟩
  exact ⟨_, (hexec s).trans (afterAccesses_of_allows hclear), put8_writes8 _ _ _⟩

/-- Settles O39: a load reads its operand and a store writes it, and neither does anything else. -/
theorem accumulatorTransfers : Obligations.AccumulatorTransfers := by
  refine ⟨fun k s => ⟨fun _ => rfl, rfl⟩, fun e he => ?_, fun e he => ?_⟩
  · have hrow := trAForms_rowOf e he
    have hexec (s : State) := (hrow.exec_eq s).trans (loadA_eq e.2.1 s)
    exact ⟨hrow.code_eq, hrow.encodes, faultsInOrder_of_afterAccesses hexec,
      fun s hr => (hexec s).trans (afterAccesses_of_allows (readable8_iff.1 hr))⟩
  · have hrow := tArForms_rowOf e he
    have hexec (s : State) := (hrow.exec_eq s).trans (storeA_eq e.2.1 s)
    exact ⟨hrow.code_eq, hrow.encodes, faultsInOrder_of_afterAccesses hexec,
      fun s hw => ⟨_, (hexec s).trans (afterAccesses_of_allows (writable8_iff.1 hw)), put8_writes8 _ _ _⟩⟩

/-- Settles O40: a pull writes the operand after SP has moved, a push stores after the operand is read. -/
theorem bytePullAndPush : Obligations.BytePullAndPush := by
  refine ⟨fun e he => ?_, fun e he => ?_⟩
  · have hrow := plForms_rowOf e he
    exact ⟨hrow.code_eq, hrow.encodes,
      faultsInOrder_of_afterAccesses fun s => (hrow.exec_eq s).trans (pullReg8_eq e.2.1 s),
      fun s hread hw => ⟨_, (hrow.exec_eq s).trans (pullReg8_next hread hw), put8_writes8 _ _ _⟩⟩
  · have hrow := phForms_rowOf e he
    exact ⟨hrow.code_eq, hrow.encodes,
      faultsInOrder_of_afterAccesses fun s => (hrow.exec_eq s).trans (pushReg8_eq e.2.1 s),
      fun s hr hwrite => ⟨_, (hrow.exec_eq s).trans (pushReg8_next hr hwrite), rfl, write_stores8 _ _ _⟩⟩

/-- Settles O41: LDA and STA are one access each, at the constant. -/
theorem loadAndStoreAccumulator : Obligations.LoadAndStoreAccumulator := by
  intro k
  have hbytes (op : Byte) (cfg : Config) : some (op :: wordBytes cfg.byteOrder k) = some (op :: constant cfg k) := by
    rw [wordBytes_eq_constant]
  refine ⟨hbytes 0x10#8, hbytes 0x18#8, faultsInOrder_of_afterAccesses (execLda_eq k),
    faultsInOrder_of_afterAccesses (execSta_eq k), fun s => ⟨fun hread => ?_, fun hwrite => ?_⟩⟩
  · exact (execLda_eq k s).trans (afterAccesses_of_allows (List.forall_mem_singleton.2 hread))
  · exact ⟨_, execSta_next hwrite, rfl, write_stores8 s.mem k s.a⟩

/-- Settles O37: each of the four writes its flag and passes on. -/
theorem flagInstructions : Obligations.FlagInstructions :=
  ⟨fun _ => rfl, fun _ => rfl, fun _ => rfl, fun _ => rfl, fun _ => ⟨rfl, rfl, rfl, rfl⟩⟩

end Sys2Proof.Settled

/-! SUPPORT. Relative jumps: the target, the condition of each form, and the relations a compare leaves in FLAG. -/
namespace Sys2Proof.Proofs

open Machine Claims

/-! ## Relative jumps -/

theorem relTarget_eq_target (k : Word) (s : State) : relTarget k s = target k s := by
  unfold relTarget target
  cases s.cfg.relBase <;> rfl

theorem jumpIf_eq_jump (taken : Bool) (k : Word) (s : State) : jumpIf taken k s = .next (jump taken k s) := by
  cases taken with
  | false => rfl
  | true => rw [jumpIf, if_pos rfl, relTarget_eq_target]; rfl

theorem encodesK_of_wordBytes {i : Instr} {op : Byte} {k : Word}
    (h : ∀ cfg, encode cfg i = some (op :: wordBytes cfg.byteOrder k)) : EncodesK i op k := fun cfg => by
  rw [h, wordBytes_eq_constant]

/-- A form of relative jump: its opcode, and the condition on FLAG under which it is taken. -/
structure JumpsOn (mk : Word → Instr) (op : Byte) (taken : Flags → Bool) : Prop where
  encodes : ∀ k, EncodesK (mk k) op k
  exec_eq : ∀ k s, exec (mk k) s = .next (jump (taken s.flag) k s)

/-- The condition may be written in another way than the model has it. -/
theorem jumpsOn_of_jumpIf {mk : Word → Instr} {op : Byte} {cond taken : Flags → Bool}
    (hencode : ∀ k cfg, encode cfg (mk k) = some (op :: wordBytes cfg.byteOrder k))
    (hexec : ∀ k s, exec (mk k) s = jumpIf (cond s.flag) k s) (hcond : ∀ f, cond f = taken f) : JumpsOn mk op taken :=
  ⟨fun k => encodesK_of_wordBytes (hencode k), fun k s => by rw [hexec, jumpIf_eq_jump, hcond]⟩

theorem get_eq_decide_flagOf (f : Flags) (n : FlagName) : f.get n = decide (flagOf n f = true) := by
  cases n <;> exact Bool.decide_eq_true.symm

theorem not_get_eq_decide_flagOf (f : Flags) (n : FlagName) : (!f.get n) = decide (flagOf n f = false) := by
  rw [get_eq_decide_flagOf, ← decide_not, decide_eq_decide, Bool.not_eq_true]

theorem jfcForms_jumpsOn : ∀ e ∈ jfcForms, JumpsOn e.1 e.2.2 fun f => decide (flagOf e.2.1 f = false) := by
  intro e he
  refine jumpsOn_of_jumpIf (cond := fun f => !f.get e.2.1) ?_ ?_ fun f => not_get_eq_decide_flagOf f e.2.1 <;>
    fin_cases he <;> exact fun _ _ => rfl

theorem jfsForms_jumpsOn : ∀ e ∈ jfsForms, JumpsOn e.1 e.2.2 fun f => decide (flagOf e.2.1 f = true) := by
  intro e he
  refine jumpsOn_of_jumpIf (cond := fun f => f.get e.2.1) ?_ ?_ fun f => get_eq_decide_flagOf f e.2.1 <;>
    fin_cases he <;> exact fun _ _ => rfl

theorem isLt_eq_decide (f : Flags) : f.isLt = decide (f.s ≠ f.v) := by
  rw [Bool.eq_iff_iff, decide_eq_true_iff]
  exact bne_iff_ne

theorem isLe_eq_decide (f : Flags) : f.isLe = decide (f.z = true ∨ f.s ≠ f.v) := by
  rw [Bool.eq_iff_iff, decide_eq_true_iff, Flags.isLe, Bool.or_eq_true, bne_iff_ne]

theorem relationForms_jumpsOn : ∀ e ∈ relationForms, JumpsOn e.1 e.2.1 e.2.2.1 := by
  simp only [relationForms, List.forall_mem_cons]
  refine ⟨jumpsOn_of_jumpIf (cond := fun f => !f.isEq) (fun _ _ => rfl) (fun _ _ => rfl) fun f => ?jne,
    jumpsOn_of_jumpIf (cond := Flags.isEq) (fun _ _ => rfl) (fun _ _ => rfl) fun f => ?jeq,
    jumpsOn_of_jumpIf (cond := Flags.isLt) (fun _ _ => rfl) (fun _ _ => rfl) fun f => ?jlt,
    jumpsOn_of_jumpIf (cond := Flags.isLe) (fun _ _ => rfl) (fun _ _ => rfl) fun f => ?jle,
    jumpsOn_of_jumpIf (cond := fun f => !f.isLe) (fun _ _ => rfl) (fun _ _ => rfl) fun f => ?jgt,
    jumpsOn_of_jumpIf (cond := fun f => !f.isLt) (fun _ _ => rfl) (fun _ _ => rfl) fun f => ?jge, nofun⟩
  all_goals simp [Flags.isEq, isLt_eq_decide, isLe_eq_decide]

/-! ## What a compare leaves in FLAG -/

section Compare

variable {n : Nat} (a b : BitVec (n + 1)) (f : Flags)

theorem opSub_z_iff : (opSub a b f).2.z = true ↔ a.toInt = b.toInt := by
  have hexact := subFlags_exact a b false f
  have hz : (opSub a b f).2.z = true ↔ (subFlags a b false f).1.toNat = 0 := by
    simp [opSub, subFlags, Flags.szp, BitVec.toNat_eq]
  have ha := a.isLt
  have hb := b.isLt
  have hr := (subFlags a b false f).1.isLt
  rw [hz, BitVec.toInt_inj, BitVec.toNat_eq]
  generalize 2 ^ (n + 1) = m at *
  cases hc : (subFlags a b false f).2.c <;> simp only [hc, Bool.toNat_true, Bool.toNat_false] at hexact <;> omega

/-- S is the sign of the difference as it fits the width, and V says that it does not fit (R292). -/
theorem opSub_s_ne_v_iff : (opSub a b f).2.s ≠ (opSub a b f).2.v ↔ a.toInt < b.toInt := by
  have hexact := subFlags_exact a b false f
  have hs : (opSub a b f).2.s = true ↔ 2 ^ n ≤ (subFlags a b false f).1.toNat := by
    simp [opSub, subFlags, Flags.szp, BitVec.msb_eq_decide]
  have hv : (opSub a b f).2.v = true ↔ _ := subFlags_v_iff a b false f
  have ha := a.isLt
  have hb := b.isLt
  have hr := (subFlags a b false f).1.isLt
  have hcast : (2 : Int) ^ n = (2 ^ n : Nat) := by push_cast; rfl
  rw [ne_eq, Bool.eq_iff_iff, hs, hv, toInt_eq_of_half, toInt_eq_of_half, hcast]
  rw [pow_succ] at *
  generalize 2 ^ n = half at *
  cases hc : (subFlags a b false f).2.c <;> simp only [hc, Bool.toNat_true, Bool.toNat_false] at * <;> omega

theorem opSub_c_eq : (opSub a b f).2.c = decide (a.toNat < b.toNat) := by
  rw [Bool.eq_iff_iff, decide_eq_true_iff]
  exact subFlags_c_iff a b false f

/-- R292: the flags of a compare meet the condition of each relational jump exactly where its relation holds. -/
theorem relationForms_opSub : ∀ e ∈ relationForms, e.2.2.1 (opSub a b f).2 = e.2.2.2 a.toInt b.toInt := by
  have hz := opSub_z_iff a b f
  have hlt := opSub_s_ne_v_iff a b f
  have hnz : (opSub a b f).2.z = false ↔ ¬ a.toInt = b.toInt := by rw [← Bool.not_eq_true, hz]
  have hge : (opSub a b f).2.s = (opSub a b f).2.v ↔ ¬ a.toInt < b.toInt := by rw [← hlt, not_ne_iff]
  simp only [relationForms, List.forall_mem_cons, decide_eq_decide]
  refine ⟨hnz, hz, hlt, ?jle, ?jgt, ?jge, nofun⟩
  case jle => rw [hz, hlt]; omega
  case jgt => rw [hnz, hge]; omega
  case jge => rw [hge]; omega

end Compare

/-- In the state every jump on a comparison is taken as `a` and `b` compare: the six relational ones signed, JCS and JCC
unsigned (R292). -/
def JumpsCompare {w : Nat} (a b : BitVec w) (k : Word) (t : State) : Prop :=
  (∀ e ∈ relationForms, exec (e.1 k) t = .next (jump (e.2.2.2 a.toInt b.toInt) k t)) ∧
    exec (.jcs k) t = .next (jump (decide (a.toNat < b.toNat)) k t) ∧
    exec (.jcc k) t = .next (jump (decide (b.toNat ≤ a.toNat)) k t)

theorem jumpsCompare_of_flag {n : Nat} {a b : BitVec (n + 1)} {f : Flags} {t : State} (h : t.flag = (opSub a b f).2)
    (k : Word) : JumpsCompare a b k t := by
  have hc : t.flag.c = decide (a.toNat < b.toNat) := by rw [h, opSub_c_eq]
  refine ⟨fun e he => ?_, ?_, ?_⟩
  · rw [(relationForms_jumpsOn e he).exec_eq, h, relationForms_opSub a b f e he]
  · rw [(jfsForms_jumpsOn (.jcs, .c, 0x6F#8) (by simp [jfsForms])).exec_eq]
    simp [flagOf, hc]
  · rw [(jfcForms_jumpsOn (.jcc, .c, 0x67#8) (by simp [jfcForms])).exec_eq]
    simp [flagOf, hc]

end Sys2Proof.Proofs

/-! SUPPORT. Calls, returns and traps: a return address on the stack, pulled again by the return. -/
namespace Sys2Proof.Proofs

open Machine Claims

/-! ## Words on the stack, and the target of JMP M and JSR M -/

section Stack

variable (s : State)

theorem push16_eq (v : Word) :
    push16 v s = afterAccesses s.cfg [writeOf (s.sp - 2#16) .word]
      ((s.setSp (s.sp - 2#16)).setMem (s.withWord (s.sp - 2#16) v)) := rfl

theorem pull16_eq :
    pull16 s = afterAccesses s.cfg [readOf s.sp .word] (word s.cfg.byteOrder s.mem s.sp, s.setSp (s.sp + 2#16)) := by
  rw [← wordAt_eq_word]
  exact andThen_afterAccesses_next [readOf s.sp .word] rfl

/-- Where JMP M and JSR M go (R285, R311). -/
def targetThroughHl : Word := if s.cfg.jmmIndirect then word s.cfg.byteOrder s.mem s.x.r0 else s.x.r0

theorem targetM_eq : targetM s = afterAccesses s.cfg (throughHl s) (targetThroughHl s) := by
  unfold targetM throughHl targetThroughHl
  rw [← wordAt_eq_word]
  cases s.cfg.jmmIndirect <;> rfl

theorem allows_throughHl_iff {s : State} :
    (∀ q ∈ throughHl s, allows s.cfg q = true) ↔
      (s.cfg.jmmIndirect = true → allows s.cfg (readOf s.x.r0 .word) = true) := by
  cases h : s.cfg.jmmIndirect <;> simp [throughHl, h]

end Stack

/-! ## Calls and returns -/

/-- The state a call leads to: the return address pushed, pc at the target (R310, R311). -/
def called (ret dest : Word) (s : State) : State :=
  ((s.setSp (s.sp - 2#16)).setMem (s.withWord (s.sp - 2#16) ret)).setPc dest

section Calls

variable (ret dest : Word) (s : State)

theorem called_stores16 :
    called ret dest s = { s with sp := s.sp - 2#16, mem := (called ret dest s).mem, pc := dest } ∧
      Stores16 s.cfg.byteOrder s.mem (called ret dest s).mem (s.sp - 2#16) ret :=
  ⟨rfl, withWord_stores16 s (s.sp - 2#16) ret⟩

/-- A call leaves memory above SP and more than two bytes below it alone. -/
theorem read_called {a : Word} (hfirst : a ≠ s.sp - 2#16) (hsecond : a ≠ s.sp - 1#16) :
    (called ret dest s).mem.read a = s.mem.read a := by
  have hnext : s.sp - 2#16 + 1#16 = s.sp - 1#16 := by bv_omega
  rw [(called_stores16 ret dest s).2 a, if_neg hfirst, hnext, if_neg hsecond]

theorem push16_setPc_eq :
    (andThen (push16 ret s) fun t => .next (t.setPc dest)) =
      afterAccesses s.cfg [writeOf (s.sp - 2#16) .word] (called ret dest s) := by
  rw [push16_eq]
  exact andThen_afterAccesses_next _ rfl

theorem execJsr_eq :
    exec (.jsr dest) s = afterAccesses s.cfg [writeOf (s.sp - 2#16) .word] (called (s.pc + 3#16) dest s) :=
  push16_setPc_eq (s.pc + 3#16) dest s

/-- R311: the target is read before the push. -/
theorem execJsm_eq :
    exec .jsm s = afterAccesses s.cfg (throughHl s ++ [writeOf (s.sp - 2#16) .word])
      (called (s.pc + 1#16) (targetThroughHl s) s) := by
  change andThen (targetM s) _ = _
  rw [targetM_eq]
  exact andThen_afterAccesses _ (push16_setPc_eq _ _ s)

theorem execJmm_eq : exec .jmm s = afterAccesses s.cfg (throughHl s) (s.setPc (targetThroughHl s)) := by
  change andThen (targetM s) _ = _
  rw [targetM_eq]
  exact andThen_afterAccesses_next _ rfl

theorem execRet_eq :
    exec .ret s = afterAccesses s.cfg [readOf s.sp .word]
      ((s.setSp (s.sp + 2#16)).setPc (word s.cfg.byteOrder s.mem s.sp)) := by
  change andThen (pull16 s) _ = _
  rw [pull16_eq]
  exact andThen_afterAccesses_next _ rfl

theorem execRfi_eq :
    exec .rfi s = afterAccesses s.cfg [readOf s.sp .word]
      (((s.setSp (s.sp + 2#16)).setPc (word s.cfg.byteOrder s.mem s.sp)).setI true) := by
  change andThen (pull16 s) _ = _
  rw [pull16_eq]
  exact andThen_afterAccesses_next _ rfl

variable {s}

theorem execJsr_next (hwrite : allows s.cfg (writeOf (s.sp - 2#16) .word) = true) :
    exec (.jsr dest) s = .next (called (s.pc + 3#16) dest s) := by
  rw [execJsr_eq, afterAccesses_of_allows (List.forall_mem_singleton.2 hwrite)]

theorem execJsm_next (hread : s.cfg.jmmIndirect = true → allows s.cfg (readOf s.x.r0 .word) = true)
    (hwrite : allows s.cfg (writeOf (s.sp - 2#16) .word) = true) :
    exec .jsm s = .next (called (s.pc + 1#16) (targetThroughHl s) s) := by
  rw [execJsm_eq, afterAccesses_of_allows
    (List.forall_mem_append.2 ⟨allows_throughHl_iff.2 hread, List.forall_mem_singleton.2 hwrite⟩)]

theorem execRet_next (hread : allows s.cfg (readOf s.sp .word) = true) :
    exec .ret s = .next ((s.setSp (s.sp + 2#16)).setPc (word s.cfg.byteOrder s.mem s.sp)) := by
  rw [execRet_eq, afterAccesses_of_allows (List.forall_mem_singleton.2 hread)]

theorem execRfi_next (hread : allows s.cfg (readOf s.sp .word) = true) :
    exec .rfi s = .next (((s.setSp (s.sp + 2#16)).setPc (word s.cfg.byteOrder s.mem s.sp)).setI true) := by
  rw [execRfi_eq, afterAccesses_of_allows (List.forall_mem_singleton.2 hread)]

/-- R313: the word pulled is the one the call pushed, and SP is back. -/
theorem execRet_called (hread : allows s.cfg (readOf (s.sp - 2#16) .word) = true) :
    exec .ret (called ret dest s) = .next { s with pc := ret, mem := (called ret dest s).mem } := by
  have hword : word (called ret dest s).cfg.byteOrder (called ret dest s).mem (called ret dest s).sp = ret :=
    word_of_stores16 (called_stores16 ret dest s).2
  have hback : (called ret dest s).sp + 2#16 = s.sp := BitVec.sub_add_cancel s.sp 2#16
  rw [execRet_next (s := called ret dest s) hread, hword, hback]
  rfl

/-- A call that completes is undone by RET at its target, but for the two bytes below SP. -/
theorem exec_ret_of_call {call : Instr} {ret dest : Word} (hcall : exec call s = .next (called ret dest s))
    (hread : allows s.cfg (readOf (s.sp - 2#16) .word) = true) :
    ∃ t u, exec call s = .next t ∧ t.pc = dest ∧ exec .ret t = .next u ∧ u = { s with pc := ret, mem := u.mem } ∧
      ∀ a, a ≠ s.sp - 2#16 → a ≠ s.sp - 1#16 → u.mem.read a = s.mem.read a :=
  ⟨_, _, hcall, rfl, execRet_called ret dest hread, rfl, fun _ hfirst hsecond => read_called ret dest s hfirst hsecond⟩

end Calls

/-! ## Traps -/

section Traps

variable {kind : TrapKind} {s : State}

/-- R499, point 8: the vector is looked up before anything is pushed. -/
theorem trap_of_vectorUnset (hv : vectorOf s.cfg kind = none) : trap kind s = .fault (.vectorUnset kind) := by
  rw [trap, hv]

/-- R500: a trap whose vector is supplied is a call of the handler, with I cleared and the machine running. -/
theorem trap_eq {v : Word} (hv : vectorOf s.cfg kind = some v) :
    trap kind s = afterAccesses s.cfg [writeOf (s.sp - 2#16) .word]
      (((called (returnAddress kind s) v s).setI false).setStatus .running) := by
  simp only [trap, hv, push16_eq]
  exact andThen_afterAccesses_next _ rfl

theorem trap_of_denied {v : Word} (hv : vectorOf s.cfg kind = some v)
    (hd : Denied s.cfg (writeOf (s.sp - 2#16) .word)) :
    trap kind s = .fault (.accessFault (writeOf (s.sp - 2#16) .word)) :=
  (trap_eq hv).trans (afterAccesses_of_denied (before := []) nofun hd)

theorem exists_trap_entered {v : Word} (hv : vectorOf s.cfg kind = some v)
    (hwrite : allows s.cfg (writeOf (s.sp - 2#16) .word) = true) :
    ∃ t, trap kind s = .next t ∧ Entered v (returnAddress kind s) s t :=
  ⟨_, (trap_eq hv).trans (afterAccesses_of_allows (List.forall_mem_singleton.2 hwrite)), rfl,
    (called_stores16 (returnAddress kind s) v s).2⟩

theorem status_of_trap {t : State} (h : trap kind s = .next t) : t.status = .running := by
  obtain ⟨v, -, -, rfl⟩ := trap_eq_next.1 h
  rfl

/-- R318: with I = 1 the request is taken. -/
theorem execIrq_of_i (hi : s.flag.i = true) : exec .irq s = trap .irq s := if_pos hi

/-- R318: with I = 0 the request is discarded. -/
theorem execIrq_of_masked (hi : s.flag.i = false) : exec .irq s = .next (s.advance 1#16) :=
  if_neg (Bool.eq_false_iff.1 hi)

end Traps

end Sys2Proof.Proofs

/-! SUPPORT. A waiting machine: what its steps do, and the states it is in when nothing is ever taken. -/
namespace Sys2Proof.Proofs

open Machine Claims

section Waiting

variable {s t : State}

theorem step_of_waiting_taken {k : TrapKind} (hs : s.status = .waiting) (hk : takenRequest s = some k) :
    step s = trap k (passBoundary s) := by
  simp only [step, hs, hk]

theorem step_of_waiting_untaken (hs : s.status = .waiting) (hk : takenRequest s = none) :
    step s = .next (passBoundary s) := by
  simp only [step, hs, hk]

/-- A step that leaves the machine waiting took nothing: a trap sets it running. -/
theorem takenRequest_of_stays_waiting (hs : s.status = .waiting) (h : step s = .next t) (ht : t.status = .waiting) :
    takenRequest s = none := by
  cases hk : takenRequest s with
  | none => rfl
  | some k =>
    have hrunning := status_of_trap ((step_of_waiting_taken hs hk).symm.trans h)
    exact absurd (ht.symm.trans hrunning) (by decide)

/-- With nothing offered, ever, passing a boundary changes nothing. -/
theorem passBoundary_of_quiet (h : s.events = .cycle []) : passBoundary s = s := by
  cases s
  subst h
  rfl

/-- The state with `n` boundaries passed and all else as it is. -/
def afterBoundaries (s : State) (n : Nat) : State := s.setEvents (s.events.drop n)

theorem passBoundary_afterBoundaries (s : State) (n : Nat) :
    passBoundary (afterBoundaries s n) = afterBoundaries s (n + 1) :=
  congrArg s.setEvents (EventStream.tail_drop s.events n)

/-- The step of a waiting machine, `n` boundaries on, at which nothing is taken. -/
theorem step_afterBoundaries (hs : s.status = .waiting) {n : Nat}
    (hn : requestTaken (s.events.drop n).head s.flag.i = none) :
    step (afterBoundaries s n) = .next (afterBoundaries s (n + 1)) := by
  rw [← passBoundary_afterBoundaries]
  exact step_of_waiting_untaken hs hn

/-- R543: a machine that waits for ever reaches nothing but itself with boundaries passed. -/
theorem reaches_of_waitsForEver (hs : WaitsForEver s) (h : Reaches s t) : ∃ n, t = afterBoundaries s n := by
  obtain ⟨hwaiting, huntaken⟩ := hs
  induction h with
  | refl => exact ⟨0, rfl⟩
  | tail _ hstep ih =>
    obtain ⟨n, rfl⟩ := ih
    rw [step_afterBoundaries hwaiting (huntaken n)] at hstep
    exact ⟨n + 1, (Host.Outcome.next.inj hstep).symm⟩

/-- A waiting machine that goes on and never changes passes every boundary, as a step that took a request would set it
running. -/
theorem reaches_afterBoundaries (hs : s.status = .waiting)
    (h : ∀ t, Reaches s t → Completes t ∧ t = { s with events := t.events }) (n : Nat) :
    Reaches s (afterBoundaries s n) ∧ requestTaken (s.events.drop n).head s.flag.i = none := by
  have huntaken {n : Nat} (hn : Reaches s (afterBoundaries s n)) :
      requestTaken (s.events.drop n).head s.flag.i = none := by
    obtain ⟨t, ht⟩ := (h _ hn).1
    have hstays : t.status = .waiting := (congrArg State.status (h t (hn.tail ht)).2).trans hs
    exact takenRequest_of_stays_waiting (s := afterBoundaries s n) hs ht hstays
  suffices hreach : Reaches s (afterBoundaries s n) from ⟨hreach, huntaken hreach⟩
  induction n with
  | zero => exact .refl
  | succ n ih => exact ih.tail (step_afterBoundaries hs (huntaken ih))

theorem waitsForEver_iff :
    WaitsForEver s ↔ s.status = .waiting ∧ ∀ t, Reaches s t → Completes t ∧ t = { s with events := t.events } := by
  constructor
  · intro hs
    refine ⟨hs.1, fun t ht => ?_⟩
    obtain ⟨n, rfl⟩ := reaches_of_waitsForEver hs ht
    exact ⟨⟨_, step_afterBoundaries hs.1 (hs.2 n)⟩, rfl⟩
  · rintro ⟨hwaiting, h⟩
    exact ⟨hwaiting, fun n => (reaches_afterBoundaries hwaiting h n).2⟩

end Waiting

/-! ## What a configured machine has -/

/-- A machine with every instruction that can have an opcode byte: the largest variant, and every `ENC_` byte supplied
(R2, R146). -/
def completeConfig : Config :=
  { Config.reference with
    encTpc := some 0x06#8, encExf := some 0x07#8, encStmm := some 0x11#8, encLdmm := some 0x12#8,
    encTrk := some 0x13#8, encTfk := some 0x14#8, encSwfk := some 0x15#8 }

theorem wellFormed_completeConfig {i : Instr} (h : i ≠ .bds) : i.wellFormed completeConfig = true := by
  refine Bool.and_eq_true_iff.2 ⟨has_of_largest i.firstVariant, ?_⟩
  cases i with
  | bds => exact absurd rfl h
  | _ => rfl

theorem wellFormed_bds (cfg : Config) : Instr.bds.wellFormed cfg = false := Bool.and_false _

/-- What is fetched is an instruction the configured machine has (R145, R147). -/
theorem wellFormed_of_fetchInstr {s : State} {i : Instr} (h : fetchInstr s = .next i) : i.wellFormed s.cfg = true := by
  obtain ⟨op, -, h⟩ := andThen_eq_next.1 h
  split at h
  · cases h
  · obtain ⟨operands, -, h⟩ := andThen_eq_next.1 h
    split at h
    · next hdecode =>
      obtain rfl := Host.Outcome.next.inj h
      exact (decode_writesBack hdecode).1
    · cases h

end Sys2Proof.Proofs

/-! PROOFS. The statements of spec/42_jump_control.md. -/
namespace Sys2Proof.Settled

open Machine Claims Proofs

/-- Settles O26: RET pulls the word the call pushed. -/
theorem callThenReturn : Obligations.CallThenReturn := by
  intro s hwrite hread
  refine ⟨fun k => exec_ret_of_call (execJsr_next k hwrite) hread, fun hdirect => ?_⟩
  have hdest : targetThroughHl s = s.x.r0 := if_neg (Bool.eq_false_iff.1 hdirect)
  have hnoRead : s.cfg.jmmIndirect = true → allows s.cfg (readOf s.x.r0 .word) = true := by simp [hdirect]
  exact hdest ▸ exec_ret_of_call (execJsm_next hnoRead hwrite) hread

/-- Settles O29: each of the three is the trap of its kind, but IRQ only where I is 1. -/
theorem trapInstructions : Obligations.TrapInstructions := by
  refine ⟨fun _ => rfl, fun _ => rfl, fun _ => rfl, fun s => ⟨execIrq_of_masked, fun hi hv => ?_, fun hv => ?_,
    fun hv => ?_, fun hwrite => ⟨fun v hi hv => ?_, fun v hv => ?_, fun v hv => ?_⟩,
    fun hd => ⟨fun v hi hv => ?_, fun v hv => ?_, fun v hv => ?_⟩⟩⟩
  · exact (execIrq_of_i hi).trans (trap_of_vectorUnset hv)
  · exact trap_of_vectorUnset (kind := .nmi) hv
  · exact trap_of_vectorUnset (kind := .trp) hv
  · rw [execIrq_of_i hi]
    exact exists_trap_entered (kind := .irq) hv hwrite
  · exact exists_trap_entered (kind := .nmi) hv hwrite
  · exact exists_trap_entered (kind := .trp) hv hwrite
  · exact (execIrq_of_i hi).trans (trap_of_denied hv hd)
  · exact trap_of_denied (kind := .nmi) hv hd
  · exact trap_of_denied (kind := .trp) hv hd

/-- Settles O42: the sixteen are the relative jump, each on its flag. -/
theorem flagJumps : Obligations.FlagJumps := by
  refine ⟨fun e he => ⟨?_, fun k s => ?_⟩, fun e he => ⟨?_, fun k s => ?_⟩⟩
  · fin_cases he <;> rfl
  · exact ⟨(jfcForms_jumpsOn e he).encodes k, (jfcForms_jumpsOn e he).exec_eq k s⟩
  · fin_cases he <;> rfl
  · exact ⟨(jfsForms_jumpsOn e he).encodes k, (jfsForms_jumpsOn e he).exec_eq k s⟩

/-- Settles O43: the six are the relative jump, each on its condition. -/
theorem relationalJumps : Obligations.RelationalJumps := fun e he k s =>
  ⟨(relationForms_jumpsOn e he).encodes k, (relationForms_jumpsOn e he).exec_eq k s⟩

/-- Settles O44: every compare leaves the flags of the difference, at either width. -/
theorem compareThenJump : Obligations.CompareThenJump := by
  refine ⟨fun b k s => ⟨_, rfl, jumpsCompare_of_flag rfl k⟩, fun c hc k s hr => ?_,
    fun ra rb k s => ⟨_, rfl, jumpsCompare_of_flag rfl k⟩, fun ra b k s => ⟨_, rfl, jumpsCompare_of_flag rfl k⟩⟩
  exact ⟨_, (cpForms_readsOperand c hc).exec_next hr, jumpsCompare_of_flag rfl k⟩

/-- Settles O45: each is its accesses in order, then the state it leads to. -/
theorem jumpsCallsReturns : Obligations.JumpsCallsReturns := by
  refine ⟨fun k => ⟨encodesK_of_wordBytes fun _ => rfl, encodesK_of_wordBytes fun _ => rfl,
      faultsInOrder_of_afterAccesses (execJsr_eq k)⟩,
    fun _ => rfl, fun _ => rfl, fun _ => rfl, fun _ => rfl, faultsInOrder_of_afterAccesses execJmm_eq,
    faultsInOrder_of_afterAccesses execJsm_eq, faultsInOrder_of_afterAccesses execRet_eq,
    faultsInOrder_of_afterAccesses execRfi_eq, fun s => ⟨fun _ => rfl, fun hread => ?_, fun hwrite => ⟨fun k => ?_,
      fun hread => ?_⟩, fun hread => ?_⟩⟩
  · exact (execJmm_eq s).trans (afterAccesses_of_allows (allows_throughHl_iff.2 hread))
  · exact ⟨_, execJsr_next k hwrite, called_stores16 _ k s⟩
  · exact ⟨_, execJsm_next hread hwrite, called_stores16 _ _ s⟩
  · exact ⟨execRet_next hread, execRfi_next hread⟩

/-- Settles O47: a waiting machine takes what is taken at its boundary, or passes the boundary. -/
theorem waitForInterrupt : Obligations.WaitForInterrupt := by
  refine ⟨fun _ => rfl, fun s => ⟨rfl, fun hs => ⟨fun hquiet => ?_, fun hnmi hirq => ?_, fun v hnmi hv hwrite => ?_,
    fun v hnmi hirq hi hv hwrite => ?_⟩, waitsForEver_iff⟩⟩
  · have huntaken : takenRequest s = none := requestTaken_eq_none.2 (by simp [hquiet, Offer.quiet])
    rw [step_of_waiting_untaken hs huntaken, passBoundary_of_quiet hquiet]
  · exact step_of_waiting_untaken hs (requestTaken_eq_none.2 ⟨hnmi, hirq⟩)
  · rw [step_of_waiting_taken hs (requestTaken_eq_some.2 (.inl ⟨hnmi, rfl⟩))]
    exact exists_trap_entered (kind := .extNmi) hv hwrite
  · rw [step_of_waiting_taken hs (requestTaken_eq_some.2 (.inr ⟨hnmi, hirq, hi, rfl⟩))]
    exact exists_trap_entered (kind := .extIrq) hv hwrite

/-- Settles O48: BDS has no opcode byte under any configuration, and what decodes or is fetched is well formed. -/
theorem bdsStops : Obligations.BdsStops := by
  refine ⟨fun i => ⟨?_, fun h => ⟨completeConfig, wellFormed_completeConfig h⟩⟩,
    fun cfg => ⟨wellFormed_bds cfg, rfl, fun bytes rest h => ?_⟩, fun s => ⟨fun h => ?_, rfl⟩⟩
  · rintro ⟨cfg, hwf⟩ rfl
    exact Bool.false_ne_true ((wellFormed_bds cfg).symm.trans hwf)
  · exact Bool.false_ne_true ((wellFormed_bds cfg).symm.trans (decode_writesBack h).1)
  · exact Bool.false_ne_true ((wellFormed_bds s.cfg).symm.trans (wellFormed_of_fetchInstr h))

/-- Settles O46: NOP and HLT by their meanings, and a halted machine's step is the refusal. -/
theorem nopAndHalt : Obligations.NopAndHalt := by
  refine ⟨fun _ => rfl, fun _ => rfl, fun s => ⟨rfl, rfl, fun hs t h => ?_⟩⟩
  simp only [step, hs] at h
  cases h

end Sys2Proof.Settled

/-! SUPPORT. 16-bit instructions: the register byte as the spec writes it, the operations on words, and the words they
move. -/
namespace Sys2Proof.Proofs

open Machine Claims

/-! ## Encodings -/

theorem pairByte_eq_regPair {c d : Byte} (hc : c.toNat < 16) (hd : d.toNat < 16) : pairByte c d = regPair c d := by
  apply BitVec.eq_of_toNat_eq
  rw [pairByte_toNat hc hd, regPair, BitVec.toNat_ofNat, Nat.mod_eq_of_lt (by omega), Nat.mul_comm]

theorem encodes_of_pairByte {i : Instr} {op c d : Byte} (hc : c.toNat < 16) (hd : d.toNat < 16)
    (h : ∀ cfg, encode cfg i = some [op, pairByte c d]) : Encodes i [op, regPair c d] := fun cfg => by
  rw [h, pairByte_eq_regPair hc hd]

theorem encodesRK_of_wordBytes {i : Instr} {op reg : Byte} {k : Word}
    (h : ∀ cfg, encode cfg i = some (op :: reg :: wordBytes cfg.byteOrder k)) : EncodesRK i op reg k := fun cfg => by
  rw [h, wordBytes_eq_constant]

/-! ## The operations as the spec writes them -/

theorem opMul_eq : (opMul : Op2 16) = fun a b f => logic (BitVec.ofNat 16 (a.toNat * b.toNat % 65536)) f := by
  funext a b f
  have hlow : BitVec.ofNat 16 (a.toNat * b.toNat) = BitVec.ofNat 16 (a.toNat * b.toNat % 65536) := by
    simp [BitVec.toNat_eq]
  simp only [opMul, logic, szp_eq, hlow]

/-- The arithmetic shift keeps the sign bit and repeats it below (R361). -/
theorem sshiftRight_one_eq_enterLeft {n : Nat} (v : BitVec (n + 1)) :
    v.sshiftRight 1 = enterLeft n v (v.getLsbD n) := by
  ext i hi
  by_cases hin : i < n
  · simp [enterLeft, BitVec.getElem_append, BitVec.getElem_sshiftRight, hin, Nat.add_comm 1 i]
  · obtain rfl : i = n := by omega
    simp [enterLeft, BitVec.getElem_append, BitVec.getElem_sshiftRight, BitVec.msb_eq_getLsbD_last]

theorem opAsr_eq {n : Nat} (v : BitVec (n + 1)) (f : Flags) :
    opAsr v f = shift (enterLeft n v (v.getLsbD n)) (v.getLsbD 0) f := by
  rw [opAsr, shifted_eq_shift, sshiftRight_one_eq_enterLeft]

/-! ### Division -/

/-- Division that truncates toward zero divides the magnitudes; the signs say the sign (R396). -/
theorem tdiv_eq_of_signs (a b : Int) :
    a.tdiv b =
      if (a < 0 ↔ b < 0) then ((a.natAbs / b.natAbs : Nat) : Int) else -((a.natAbs / b.natAbs : Nat) : Int) := by
  have hmagnitude : (a.tdiv b).natAbs = a.natAbs / b.natAbs := Int.natAbs_tdiv a b
  split
  next hsame =>
    have hsign : 0 ≤ a.tdiv b := by
      by_cases ha : a < 0
      · exact Int.tdiv_nonneg_of_nonpos_of_nonpos (by omega) (by omega)
      · exact Int.tdiv_nonneg (by omega) (by omega)
    omega
  next hdiffer =>
    have hsign : a.tdiv b ≤ 0 := by
      by_cases ha : a < 0
      · have hneg : 0 ≤ (-a).tdiv b := Int.tdiv_nonneg (by omega) (by omega)
        rw [Int.neg_tdiv] at hneg
        omega
      · exact Int.tdiv_nonpos_of_nonneg_of_nonpos (by omega) (by omega)
    omega

/-- The remainder of that division is the magnitudes', with the sign of the dividend (R396). -/
theorem tmod_eq_of_sign (a b : Int) :
    a.tmod b = if a < 0 then -((a.natAbs % b.natAbs : Nat) : Int) else ((a.natAbs % b.natAbs : Nat) : Int) := by
  have hmagnitude := Int.natAbs_tmod a b
  split
  next ha =>
    have hneg : 0 ≤ (-a).tmod b := Int.tmod_nonneg b (by omega)
    rw [Int.neg_tmod] at hneg
    omega
  next ha =>
    have hpos : 0 ≤ a.tmod b := Int.tmod_nonneg b (by omega)
    omega

theorem quotient_eq (signed : Bool) (a b : Word) :
    quotient signed a b = if signed then signedQuotient a b else BitVec.ofNat 16 (a.toNat / b.toNat) := by
  rw [quotient, tdiv_eq_of_signs, apply_ite (BitVec.ofInt 16), BitVec.ofInt_natCast]
  rfl

theorem remainder_eq (signed : Bool) (a b : Word) :
    remainder signed a b = if signed then signedRemainder a b else BitVec.ofNat 16 (a.toNat % b.toNat) := by
  rw [remainder, tmod_eq_of_sign, apply_ite (BitVec.ofInt 16), BitVec.ofInt_natCast]
  rfl

theorem opDiv_eq_logic (signed : Bool) (a b : Word) (f : Flags) :
    opDiv signed a b f = logic (quotient signed a b) f := by
  simp only [opDiv, logic, szp_eq]

theorem opMod_eq_logic (signed : Bool) (a b : Word) (f : Flags) :
    opMod signed a b f = logic (remainder signed a b) f := by
  simp only [opMod, logic, szp_eq]

section Divide

variable {op : Bool → Op2 16} {rd : Reg16} {b n : Word} {s : State}

theorem divide_of_zero (hb : b = 0#16) : divide op rd b n s = .fault (.divideByZero s.pc) := if_pos hb

theorem divide_of_ne_zero (hb : b ≠ 0#16) :
    divide op rd b n s = .next (toReg rd (op s.cfg.divSigned (s.x.get rd) b s.flag) n s) := if_neg hb

end Divide

/-! ## Operations of two words -/

/-- An operation in both its forms, on two registers and on a register and a constant: opcodes, result and flags. -/
structure WordForms (mkRR : Reg16 → Reg16 → Instr) (opRR : Byte) (mkRK : Reg16 → Word → Instr) (opRK : Byte)
    (op : Op2 16) : Prop where
  encode_rr : ∀ rd rs cfg, encode cfg (mkRR rd rs) = some [opRR, pairByte rd.code rs.code]
  encode_rk : ∀ rd k cfg, encode cfg (mkRK rd k) = some (opRK :: rd.code :: wordBytes cfg.byteOrder k)
  exec_rr : ∀ rd rs s, exec (mkRR rd rs) s = .next (word2 op rd (s.x.get rs) 2#16 s)
  exec_rk : ∀ rd k s, exec (mkRK rd k) s = .next (word2 op rd k 4#16 s)

theorem WordForms.spec {mkRR : Reg16 → Reg16 → Instr} {opRR : Byte} {mkRK : Reg16 → Word → Instr} {opRK : Byte}
    {op : Op2 16} (h : WordForms mkRR opRR mkRK opRK op) (rd rs : Reg16) (k : Word) (s : State) :
    Encodes (mkRR rd rs) [opRR, regPair rd.code rs.code] ∧ EncodesRK (mkRK rd k) opRK rd.code k ∧
      exec (mkRR rd rs) s = .next (toReg rd (op (s.x.get rd) (s.x.get rs) s.flag) 2#16 s) ∧
      exec (mkRK rd k) s = .next (toReg rd (op (s.x.get rd) k s.flag) 4#16 s) :=
  ⟨encodes_of_pairByte rd.code_lt rs.code_lt (h.encode_rr rd rs), encodesRK_of_wordBytes (h.encode_rk rd k),
    h.exec_rr rd rs s, h.exec_rk rd k s⟩

theorem sumForms_wordForms : ∀ e ∈ sumForms, WordForms e.1 e.2.1 e.2.2.1 e.2.2.2.1 e.2.2.2.2 := by
  rw [sumForms, ← opAdd_eq, ← opAdc_eq, ← opSub_eq, ← opSbc_eq]
  intro e he
  fin_cases he <;> exact ⟨fun _ _ _ => rfl, fun _ _ _ => rfl, fun _ _ _ => rfl, fun _ _ _ => rfl⟩

theorem logicForms_wordForms :
    ∀ e ∈ logicForms, WordForms e.1 e.2.1 e.2.2.1 e.2.2.2.1 fun a b f => logic (e.2.2.2.2 a b) f := by
  simp only [logicForms, List.forall_mem_cons, ← opAnd_eq, ← opOrr_eq, ← opXor_eq, ← opMul_eq]
  refine ⟨?and, ?orr, ?xor, ?mul, nofun⟩
  all_goals exact ⟨fun _ _ _ => rfl, fun _ _ _ => rfl, fun _ _ _ => rfl, fun _ _ _ => rfl⟩

/-! ## Transfers -/

theorem widen_eq_wide (s : State) (old : Word) (v : Byte) : widen s.cfg.tra8High old v = wide s old v := by
  unfold widen wide
  cases s.cfg.tra8High <;> rfl

theorem execTrR_eq (rd : Reg16) (o : Reg8) (s : State) :
    exec (.trR rd o) s = afterAccesses s.cfg (readsM o s)
      ((s.setX (s.x.set rd (wide s (s.x.get rd) (value8 o s)))).advance 2#16) := by
  change andThen (op8Read o s) _ = _
  rw [op8Read_eq, ← widen_eq_wide]
  exact andThen_afterAccesses_next _ rfl

theorem execTRr_eq (o : Reg8) (rs : Reg16) (s : State) :
    exec (.tRr o rs) s = afterAccesses s.cfg (writesM o s) (put8 o (low (s.x.get rs)) (s.advance 2#16)) := by
  change andThen (op8Write o (low (s.x.get rs)) s) _ = _
  rw [op8Write_eq, put8_advance]
  exact andThen_afterAccesses_next _ rfl

/-- Two registers exchanged, which may be one and the same (R368). -/
theorem get_exchangedPair (x : Regs) (rd rs q : Reg16) :
    ((x.set rd (x.get rs)).set rs (x.get rd)).get q =
      if q = rs then x.get rd else if q = rd then x.get rs else x.get q := by
  rw [Regs.get_set, Regs.get_set]

theorem execSwpRr_spec (rd rs : Reg16) (s : State) :
    ∃ t, exec (.swpRr rd rs) s = .next t ∧ t = { s with x := t.x, pc := s.pc + 2#16 } ∧
      t.x.get rd = s.x.get rs ∧ t.x.get rs = s.x.get rd ∧ ∀ q, q ≠ rd → q ≠ rs → t.x.get q = s.x.get q := by
  refine ⟨_, rfl, rfl, (get_exchangedPair s.x rd rs rd).trans ?_, Regs.get_set_same _ rs _, fun q hd hs => ?_⟩
  · by_cases h : rd = rs <;> simp [h]
  · rw [State.advance_x, State.setX_x, get_exchangedPair, if_neg hs, if_neg hd]

/-! ## Words loaded, stored, pushed and pulled -/

/-- The state a word stored and the pc moved on by `n` lead to. -/
def stored16 (a w n : Word) (s : State) : State := (s.setMem (s.withWord a w)).advance n

theorem stored16_stores16 (a w n : Word) (s : State) :
    stored16 a w n s = { s with mem := (stored16 a w n s).mem, pc := s.pc + n } ∧
      Stores16 s.cfg.byteOrder s.mem (stored16 a w n s).mem a w :=
  ⟨rfl, withWord_stores16 s a w⟩

theorem pushed16_pushed (w n : Word) (s : State) : Pushed w n s (pushed16 w n s) :=
  ⟨rfl, withWord_stores16 s (s.sp - 2#16) w⟩

section Moves

variable (s : State)

theorem memRead16_next_eq {β : Type} (a : Word) (g : Word → β) :
    (andThen (memRead16 a s) fun v => .next (g v)) =
      afterAccesses s.cfg [readOf a .word] (g (word s.cfg.byteOrder s.mem a)) := by
  rw [← wordAt_eq_word]
  exact andThen_afterAccesses_next (a := s.wordAt a) [readOf a .word] rfl

theorem memWrite16_advance_eq (a w n : Word) :
    (andThen (memWrite16 a w s) fun t => .next (t.advance n)) =
      afterAccesses s.cfg [writeOf a .word] (stored16 a w n s) :=
  andThen_afterAccesses_next (a := s.setMem (s.withWord a w)) [writeOf a .word] rfl

theorem push16_advance_eq (w n : Word) :
    (andThen (push16 w s) fun t => .next (t.advance n)) =
      afterAccesses s.cfg [writeOf (s.sp - 2#16) .word] (pushed16 w n s) := by
  rw [push16_eq]
  exact andThen_afterAccesses_next _ rfl

theorem pull16_next_eq {β : Type} (g : Word × State → β) :
    (andThen (pull16 s) fun p => .next (g p)) =
      afterAccesses s.cfg [readOf s.sp .word] (g (word s.cfg.byteOrder s.mem s.sp, s.setSp (s.sp + 2#16))) := by
  rw [pull16_eq]
  exact andThen_afterAccesses_next _ rfl

variable (r : Reg16)

theorem execPshR_eq :
    exec (.pshR r) s = afterAccesses s.cfg [writeOf (s.sp - 2#16) .word] (pushed16 (s.x.get r) 2#16 s) :=
  push16_advance_eq s (s.x.get r) 2#16

theorem execPulR_eq :
    exec (.pulR r) s = afterAccesses s.cfg [readOf s.sp .word]
      (((s.setSp (s.sp + 2#16)).setX (s.x.set r (word s.cfg.byteOrder s.mem s.sp))).advance 2#16) :=
  pull16_next_eq s fun p => (p.2.setX (p.2.x.set r p.1)).advance 2#16

theorem execLrK_eq (k : Word) :
    exec (.lrK r k) s = afterAccesses s.cfg [readOf k .word]
      ((s.setX (s.x.set r (word s.cfg.byteOrder s.mem k))).advance 4#16) :=
  memRead16_next_eq s k fun v => (s.setX (s.x.set r v)).advance 4#16

theorem execSrK_eq (k : Word) :
    exec (.srK r k) s = afterAccesses s.cfg [writeOf k .word] (stored16 k (s.x.get r) 4#16 s) :=
  memWrite16_advance_eq s k (s.x.get r) 4#16

theorem execStmMr_eq :
    exec (.stmMr r) s = afterAccesses s.cfg [writeOf s.x.r0 .word] (stored16 s.x.r0 (s.x.get r) 2#16 s) :=
  memWrite16_advance_eq s s.x.r0 (s.x.get r) 2#16

theorem execLdmRm_eq :
    exec (.ldmRm r) s = afterAccesses s.cfg [readOf s.x.r0 .word]
      ((s.setX (s.x.set r (word s.cfg.byteOrder s.mem s.x.r0))).advance 2#16) :=
  memRead16_next_eq s s.x.r0 fun v => (s.setX (s.x.set r v)).advance 2#16

end Moves

/-- One access that is let through, and the instruction completes. -/
theorem exec_next_of_allows {i : Instr} {q : Access} {s t : State} (h : exec i s = afterAccesses s.cfg [q] t)
    (hq : allows s.cfg q = true) : exec i s = .next t :=
  h.trans (afterAccesses_of_allows (List.forall_mem_singleton.2 hq))

end Sys2Proof.Proofs

/-! PROOFS. The statements of spec/43_word16.md. -/
namespace Sys2Proof.Settled

open Machine Claims Proofs

/-- Settles O49: `addFlags` and `subFlags` are R45's, and every form applies them to its register and operand. -/
theorem wordSumsAndCompare : Obligations.WordSumsAndCompare := by
  refine ⟨fun e he => (sumForms_wordForms e he).spec, fun ra rb k s => ?_⟩
  simp only [← subFlags_eq_sub]
  exact ⟨encodes_of_pairByte ra.code_lt rb.code_lt fun _ => rfl, encodesRK_of_wordBytes fun _ => rfl, rfl, rfl⟩

/-- Settles O50: the four operations leave R45's SZP and no other flag. -/
theorem wordLogicAndProduct : Obligations.WordLogicAndProduct := fun e he => (logicForms_wordForms e he).spec

/-- Settles O51: each shift and rotate moves the bits as R360 to R363 write them. -/
theorem wordUnaryOperations : Obligations.WordUnaryOperations := by
  intro r s
  simp only [← opAsl_eq, ← opAsr_eq, ← opRol_eq, ← opRor_eq, ← opCom_eq, ← opNeg_eq]
  exact ⟨fun _ => rfl, fun _ => rfl, fun _ => rfl, fun _ => rfl, fun _ => rfl, fun _ => rfl,
    rfl, rfl, rfl, rfl, rfl, rfl⟩

/-- Settles O52: a divisor of zero faults before the operation is asked for; any other gives R396's result. -/
theorem divideAndRemainder : Obligations.DivideAndRemainder := by
  intro rd rs k
  refine ⟨encodes_of_pairByte rd.code_lt rs.code_lt fun _ => rfl, encodesRK_of_wordBytes fun _ => rfl,
    encodes_of_pairByte rd.code_lt rs.code_lt fun _ => rfl, encodesRK_of_wordBytes fun _ => rfl, fun s => ?_⟩
  simp only [← quotient_eq, ← remainder_eq, ← opDiv_eq_logic, ← opMod_eq_logic]
  exact ⟨fun hb => ⟨divide_of_zero hb, divide_of_zero hb⟩, fun hk => ⟨divide_of_zero hk, divide_of_zero hk⟩,
    fun hb => ⟨divide_of_ne_zero hb, divide_of_ne_zero hb⟩, fun hk => ⟨divide_of_ne_zero hk, divide_of_ne_zero hk⟩⟩

/-- Settles O53: only TrR and TRr can reach memory, each with the one access of its 8-bit operand. -/
theorem wordTransfers : Obligations.WordTransfers := by
  refine ⟨fun _ => rfl, fun r k cfg => ?_, fun rd rs o => ?_, fun s => ⟨rfl, fun rd rs o k => ?_⟩⟩
  · rw [← wordBytes_eq_constant]
    rfl
  · exact ⟨encodes_of_pairByte rd.code_lt rs.code_lt fun _ => rfl,
      encodes_of_pairByte rd.code_lt o.code_lt fun _ => rfl, encodes_of_pairByte o.code_lt rs.code_lt fun _ => rfl,
      encodes_of_pairByte rd.code_lt rs.code_lt fun _ => rfl, faultsInOrder_of_afterAccesses (execTrR_eq rd o),
      faultsInOrder_of_afterAccesses (execTRr_eq o rs)⟩
  · refine ⟨rfl, fun hr => ?trR, fun hw => ⟨_, ?tRr, put8_writes8 o _ _⟩, execSwpRr_spec rd rs s, rfl⟩
    case trR => exact (execTrR_eq rd o s).trans (afterAccesses_of_allows (readable8_iff.1 hr))
    case tRr => exact (execTRr_eq o rs s).trans (afterAccesses_of_allows (writable8_iff.1 hw))

/-- Settles O54: each is one access of a word, and then the state it leads to. -/
theorem wordLoadStorePushPull : Obligations.WordLoadStorePushPull := by
  refine fun r k => ⟨fun _ => rfl, fun _ => rfl, encodesRK_of_wordBytes fun _ => rfl,
    encodesRK_of_wordBytes fun _ => rfl, fun _ => ⟨rfl, rfl⟩,
    faultsInOrder_of_afterAccesses fun s => execPshR_eq s r, faultsInOrder_of_afterAccesses fun s => execPulR_eq s r,
    faultsInOrder_of_afterAccesses fun s => execLrK_eq s r k, faultsInOrder_of_afterAccesses fun s => execSrK_eq s r k,
    faultsInOrder_of_afterAccesses fun s => execStmMr_eq s r, faultsInOrder_of_afterAccesses fun s => execLdmRm_eq s r,
    fun s => ⟨fun hwrite => ⟨_, ?pshR, pushed16_pushed _ _ s⟩, exec_next_of_allows (execPulR_eq s r),
      exec_next_of_allows (execLrK_eq s r k), fun hwrite => ⟨_, ?srK, stored16_stores16 k _ _ s⟩,
      fun hwrite => ⟨_, ?stmMr, stored16_stores16 _ _ _ s⟩, exec_next_of_allows (execLdmRm_eq s r)⟩⟩
  case pshR => exact exec_next_of_allows (execPshR_eq s r) hwrite
  case srK => exact exec_next_of_allows (execSrK_eq s r k) hwrite
  case stmMr => exact exec_next_of_allows (execStmMr_eq s r) hwrite

end Sys2Proof.Settled

/-! SUPPORT. The shadow exchange: undone by a second one, register by register the variant's own. -/
namespace Sys2Proof.Proofs

open Machine Claims

variable (s : State)

/-- The exchange of EXR is its own inverse (R420). -/
theorem exchangeGeneral_exchangeGeneral : exchangeGeneral (exchangeGeneral s) = s := by
  simp only [exchangeGeneral, Regs.exchanged_exchanged]

/-- The exchange of EXR neither reads nor writes the pc. -/
theorem exchangeGeneral_advance (n : Word) : exchangeGeneral (s.advance n) = (exchangeGeneral s).advance n := rfl

theorem execExr_execExr : andThen (exec .exr s) (exec .exr) = .next { s with pc := s.pc + 2#16 } := by
  have hpc : (s.advance 1#16).advance 1#16 = { s with pc := s.pc + 2#16 } :=
    congrArg s.setPc (BitVec.add_assoc s.pc 1#16 1#16)
  calc andThen (exec .exr s) (exec .exr)
      = .next ((exchangeGeneral ((exchangeGeneral s).advance 1#16)).advance 1#16) := rfl
    _ = .next { s with pc := s.pc + 2#16 } := by
      rw [exchangeGeneral_advance, exchangeGeneral_exchangeGeneral, hpc]

variable {v : Variant} {r : Reg16} (x y : Regs)

/-- A register the variant has takes the other file's contents (R420). -/
theorem get_exchanged_of_hasReg (h : hasReg v r = true) : (Regs.exchanged v x y).get r = y.get r := by
  rw [Regs.get_exchanged, ← hasReg_eq_present, if_pos h]

/-- A register the variant lacks stays as it is (R420). -/
theorem get_exchanged_of_not_hasReg (h : hasReg v r = false) : (Regs.exchanged v x y).get r = x.get r := by
  rw [Regs.get_exchanged, ← hasReg_eq_present, if_neg (ne_true_of_eq_false h)]

end Sys2Proof.Proofs

/-! PROOFS. The statements of spec/44_extended.md. -/
namespace Sys2Proof.Settled

open Machine Claims Proofs

/-- Settles O55: EXR is R420's exchange, an involution that the variant's presence test guards register by register. -/
theorem shadowExchange : Obligations.ShadowExchange := by
  refine ⟨fun _ => rfl, fun _ => rfl, fun s => ⟨⟨_, rfl, rfl, fun r hr => ?present, fun r hr => ?absent, ?twice⟩, rfl⟩⟩
  case present => exact ⟨get_exchanged_of_hasReg s.x s.shadowX hr, get_exchanged_of_hasReg s.shadowX s.x hr⟩
  case absent => exact ⟨get_exchanged_of_not_hasReg s.x s.shadowX hr, get_exchanged_of_not_hasReg s.shadowX s.x hr⟩
  case twice => exact execExr_execExr s

end Sys2Proof.Settled

/-! SUPPORT. Float instructions: the conversions of R431, the words a float register moves, and the jumps after a float
compare. -/
namespace Sys2Proof.Proofs

open Machine Claims

/-! ## Transfers -/

section Transfers

variable (s : State)

theorem xferIn_eq_intoFloat (cfg : Config) (v : Word) : xferIn cfg v = intoFloat cfg v := by
  unfold xferIn intoFloat
  cases cfg.xferIn <;> rfl

theorem xferOut_eq_outOfFloat (cfg : Config) (v : Word) : xferOut cfg v = outOfFloat cfg v := by
  unfold xferOut outOfFloat
  cases cfg.xferOut <;> rfl

theorem execTRF_next (f : FReg) (r : Reg16) :
    exec (.tRF f r) s = .next (toFloat f (intoFloat s.cfg (s.x.get r)) 2#16 s) := by
  rw [← xferIn_eq_intoFloat]
  rfl

theorem execTFR_next (r : Reg16) (f : FReg) :
    exec (.tFR r f) s = .next { s with x := s.x.set r (outOfFloat s.cfg (s.f.get f)), pc := s.pc + 2#16 } := by
  rw [← xferOut_eq_outOfFloat]
  rfl

/-- R443: the byte is widened over the float register's old word, and then converted. -/
theorem execTrF_eq (f : FReg) (o : Reg8) :
    exec (.trF f o) s = afterAccesses s.cfg (readsM o s)
      (toFloat f (intoFloat s.cfg (wide s (s.f.get f) (value8 o s))) 2#16 s) := by
  change andThen (op8Read o s) _ = _
  rw [op8Read_eq, ← widen_eq_wide, ← xferIn_eq_intoFloat]
  exact andThen_afterAccesses_next _ rfl

/-- R444: the word is converted, and then its low byte taken. -/
theorem execTFr_eq (o : Reg8) (f : FReg) :
    exec (.tFr o f) s = afterAccesses s.cfg (writesM o s)
      (put8 o (low (outOfFloat s.cfg (s.f.get f))) (s.advance 2#16)) := by
  change andThen (op8Write o (low (xferOut s.cfg (s.f.get f))) s) _ = _
  rw [op8Write_eq, put8_advance, ← xferOut_eq_outOfFloat]
  exact andThen_afterAccesses_next _ rfl

/-- Two float registers exchanged, which may be one and the same (R452). -/
theorem get_exchangedFloats (x : FRegs) (f g q : FReg) :
    ((x.set f (x.get g)).set g (x.get f)).get q = if q = g then x.get f else if q = f then x.get g else x.get q := by
  rw [FRegs.get_set, FRegs.get_set]

theorem execSwpFf_spec (f g : FReg) :
    ∃ t, exec (.swpFf f g) s = .next t ∧ t = { s with f := t.f, pc := s.pc + 2#16 } ∧
      t.f.get f = s.f.get g ∧ t.f.get g = s.f.get f ∧ ∀ q, q ≠ f → q ≠ g → t.f.get q = s.f.get q := by
  refine ⟨_, rfl, rfl, (get_exchangedFloats s.f f g f).trans ?_, FRegs.get_set_same _ g _, fun q hf hg => ?_⟩
  · by_cases h : f = g <;> simp [h]
  · rw [State.advance_f, State.setF_f, get_exchangedFloats, if_neg hg, if_neg hf]

end Transfers

/-! ## Words loaded, stored, pushed, pulled and exchanged -/

section Moves

variable (s : State) (f : FReg) (k : Word)

theorem execLfk_eq :
    exec (.lfk f k) s = afterAccesses s.cfg [readOf k .word] (toFloat f (word s.cfg.byteOrder s.mem k) 4#16 s) :=
  memRead16_next_eq s k fun v => floatTo f v 4#16 s

theorem execSfk_eq :
    exec (.sfk f k) s = afterAccesses s.cfg [writeOf k .word] (stored16 k (s.f.get f) 4#16 s) :=
  memWrite16_advance_eq s k (s.f.get f) 4#16

theorem execPshF_eq :
    exec (.pshF f) s = afterAccesses s.cfg [writeOf (s.sp - 2#16) .word] (pushed16 (s.f.get f) 2#16 s) :=
  push16_advance_eq s (s.f.get f) 2#16

theorem execPulF_eq :
    exec (.pulF f) s = afterAccesses s.cfg [readOf s.sp .word]
      (toFloat f (word s.cfg.byteOrder s.mem s.sp) 2#16 (s.setSp (s.sp + 2#16))) :=
  pull16_next_eq s fun p => floatTo f p.1 2#16 p.2

/-- R469: the old word is read before the old register is stored over it. -/
theorem execSwpFk_eq :
    exec (.swpFk f k) s = afterAccesses s.cfg [readOf k .word, writeOf k .word]
      (toFloat f (word s.cfg.byteOrder s.mem k) 4#16 (s.setMem (s.withWord k (s.f.get f)))) := by
  rw [← wordAt_eq_word]
  refine andThen_afterAccesses (a := s.wordAt k) [readOf k .word] (more := [writeOf k .word]) ?_
  exact andThen_afterAccesses_next (a := s.setMem (s.withWord k (s.f.get f))) [writeOf k .word] rfl

variable {s k} in
theorem execSwpFk_next (hread : allows s.cfg (readOf k .word) = true) (hwrite : allows s.cfg (writeOf k .word) = true) :
    exec (.swpFk f k) s =
      .next (toFloat f (word s.cfg.byteOrder s.mem k) 4#16 (s.setMem (s.withWord k (s.f.get f)))) := by
  rw [execSwpFk_eq, afterAccesses_of_allows (List.forall_mem_cons.2 ⟨hread, List.forall_mem_singleton.2 hwrite⟩)]

end Moves

/-! ## Compares, and the jumps after them -/

theorem floatCompare_eq_floatFlags (f : Flags) (r : FloatOrder) : f.floatCompare r = floatFlags r f := by
  cases r <;> rfl

section Compare

variable (s : State)

theorem execCmpFf_next (f g : FReg) :
    exec (.cmpFf f g) s =
      .next { s with flag := floatFlags (Config.fcmp (s.f.get f) (s.f.get g)) s.flag, pc := s.pc + 2#16 } := by
  rw [← floatCompare_eq_floatFlags]
  rfl

theorem execCmpFk_next (f : FReg) (b : Word) :
    exec (.cmpFk f b) s =
      .next { s with flag := floatFlags (Config.fcmp (s.f.get f) b) s.flag, pc := s.pc + 4#16 } := by
  rw [← floatCompare_eq_floatFlags]
  rfl

end Compare

/-- Where S, Z and V are the row of the result `r`, the jump is taken exactly as `taken` says of `r` (R446). -/
def ReadsFloatOrder (mk : Word → Instr) (taken : FloatOrder → Bool) : Prop :=
  ∀ (k : Word) (r : FloatOrder) (f : Flags) (t : State), t.flag = floatFlags r f →
    exec (mk k) t = .next (jump (taken r) k t)

theorem JumpsOn.readsFloatOrder {mk : Word → Instr} {op : Byte} {cond : Flags → Bool} {taken : FloatOrder → Bool}
    (h : JumpsOn mk op cond) (hrow : ∀ r f, cond (floatFlags r f) = taken r) : ReadsFloatOrder mk taken :=
  fun k r f t ht => by rw [h.exec_eq, ht, hrow]

theorem floatTaken_readsFloatOrder : ∀ e ∈ floatTaken, ReadsFloatOrder e.1 e.2 := by
  have hrelational := relationForms_jumpsOn
  simp only [relationForms, List.forall_mem_cons] at hrelational
  obtain ⟨hjne, hjeq, hjlt, hjle, hjgt, hjge, -⟩ := hrelational
  have hjvs := jfsForms_jumpsOn (.jvs, .v, 0x6A#8) (by simp [jfsForms])
  simp only [floatTaken, List.forall_mem_cons]
  refine ⟨hjne.readsFloatOrder ?jne, hjeq.readsFloatOrder ?jeq, hjlt.readsFloatOrder ?jlt,
    hjle.readsFloatOrder ?jle, hjgt.readsFloatOrder ?jgt, hjge.readsFloatOrder ?jge, hjvs.readsFloatOrder ?jvs, nofun⟩
  all_goals
    intro r f
    cases r <;> rfl

/-! ## Operations of the FLOAT record -/

theorem floatPairForms_exec : ∀ e ∈ floatPairForms, ∀ (f g : FReg) (s : State),
    exec (e.1 f g) s = .next (float2 e.2.2 f (s.f.get g) 2#16 s) := by
  intro e he
  fin_cases he <;> exact fun _ _ _ => rfl

theorem floatPairForms_encodes : ∀ e ∈ floatPairForms, ∀ f g : FReg,
    Encodes (e.1 f g) [e.2.1, regPair f.code g.code] := by
  intro e he f g
  refine encodes_of_pairByte f.code_lt g.code_lt ?_
  fin_cases he <;> exact fun _ => rfl

theorem floatConstForms_exec : ∀ e ∈ floatConstForms, ∀ (f : FReg) (k : Word) (s : State),
    exec (e.1 f k) s = .next (float2 e.2.2 f k 4#16 s) := by
  intro e he
  fin_cases he <;> exact fun _ _ _ => rfl

theorem floatConstForms_encodes : ∀ e ∈ floatConstForms, ∀ (f : FReg) (k : Word),
    EncodesRK (e.1 f k) e.2.1 f.code k := by
  intro e he f k
  refine encodesRK_of_wordBytes ?_
  fin_cases he <;> exact fun _ => rfl

theorem floatUnaryForms_exec : ∀ e ∈ floatUnaryForms, ∀ (f : FReg) (s : State),
    exec (e.1 f) s = .next (floatTo f (e.2.2 (s.f.get f)) 2#16 s) := by
  intro e he
  fin_cases he <;> exact fun _ _ => rfl

theorem floatUnaryForms_encodes : ∀ e ∈ floatUnaryForms, ∀ f : FReg, Encodes (e.1 f) [e.2.1, f.code] := by
  intro e he
  fin_cases he <;> exact fun _ _ => rfl

end Sys2Proof.Proofs

/-! PROOFS. The statements of spec/45_float.md. -/
namespace Sys2Proof.Settled

open Machine Claims Proofs

/-- Settles O56: only TrF and TFr can reach memory, each with the one access of its 8-bit operand. -/
theorem floatTransfers : Obligations.FloatTransfers := by
  refine ⟨fun f g r o k cfg => ⟨encodes_of_pairByte f.code_lt g.code_lt fun _ => rfl,
      encodes_of_pairByte f.code_lt r.code_lt fun _ => rfl, encodes_of_pairByte r.code_lt f.code_lt fun _ => rfl,
      encodes_of_pairByte f.code_lt o.code_lt fun _ => rfl, encodes_of_pairByte o.code_lt f.code_lt fun _ => rfl,
      encodes_of_pairByte f.code_lt g.code_lt fun _ => rfl, ?traFk,
      faultsInOrder_of_afterAccesses fun s => execTrF_eq s f o,
      faultsInOrder_of_afterAccesses fun s => execTFr_eq s o f⟩,
    fun s f g r o k => ⟨rfl, execTRF_next s f r, execTFR_next s r f, fun hr => ?trF,
      fun hw => ⟨_, ?tFr, put8_writes8 o _ _⟩, execSwpFf_spec s f g, rfl⟩⟩
  case traFk => rw [← wordBytes_eq_constant]; rfl
  case trF => exact (execTrF_eq s f o).trans (afterAccesses_of_allows (readable8_iff.1 hr))
  case tFr => exact (execTFr_eq s o f).trans (afterAccesses_of_allows (writable8_iff.1 hw))

/-- Settles O57: each is its accesses in order, a word each, and then the state it leads to. -/
theorem floatLoadStorePushPull : Obligations.FloatLoadStorePushPull := by
  refine fun f k => ⟨encodesRK_of_wordBytes fun _ => rfl, encodesRK_of_wordBytes fun _ => rfl, fun _ => rfl,
    fun _ => rfl, fun cfg => ?encodeSwpFk, faultsInOrder_of_afterAccesses fun s => execLfk_eq s f k,
    faultsInOrder_of_afterAccesses fun s => execSfk_eq s f k, faultsInOrder_of_afterAccesses fun s => execPshF_eq s f,
    faultsInOrder_of_afterAccesses fun s => execPulF_eq s f,
    faultsInOrder_of_afterAccesses fun s => execSwpFk_eq s f k,
    fun s => ⟨exec_next_of_allows (execLfk_eq s f k), fun hwrite => ⟨_, ?sfk, stored16_stores16 k _ _ s⟩,
      fun hwrite => ⟨_, ?pshF, pushed16_pushed _ _ s⟩, exec_next_of_allows (execPulF_eq s f),
      fun hread hwrite => ⟨_, execSwpFk_next f hread hwrite, rfl, withWord_stores16 s k (s.f.get f)⟩⟩⟩
  case encodeSwpFk => rw [← wordBytes_eq_constant]; rfl
  case sfk => exact exec_next_of_allows (execSfk_eq s f k) hwrite
  case pshF => exact exec_next_of_allows (execPshF_eq s f) hwrite

/-- Settles O60: the compares leave the row of `fcmp`'s result in FLAG, and each jump's condition is read off it. -/
theorem floatCompare : Obligations.FloatCompare := fun f g b s =>
  ⟨encodes_of_pairByte f.code_lt g.code_lt fun _ => rfl, encodesRK_of_wordBytes fun _ => rfl, execCmpFf_next s f g,
    execCmpFk_next s f b, _, _, execCmpFf_next s f g, execCmpFk_next s f b, fun e he k =>
      ⟨floatTaken_readsFloatOrder e he k _ s.flag _ rfl, floatTaken_readsFloatOrder e he k _ s.flag _ rfl⟩⟩

/-- Settles O58: every form is the two-operand shape of R432 with its own function of the record. -/
theorem floatArithmetic : Obligations.FloatArithmetic :=
  ⟨fun e he f g s => ⟨floatPairForms_encodes e he f g, floatPairForms_exec e he f g s⟩,
    fun e he f k s => ⟨floatConstForms_encodes e he f k, floatConstForms_exec e he f k s⟩⟩

/-- Settles O59: every form replaces its register by its own function of it. -/
theorem floatUnaryOperations : Obligations.FloatUnaryOperations := fun e he f s =>
  ⟨floatUnaryForms_encodes e he f, floatUnaryForms_exec e he f s⟩

end Sys2Proof.Settled

/-! SUPPORT. Faults and requests: the accesses each instruction makes and what it faults with besides, the byte a fetch
stops at, and what a boundary's offer does to a step. -/
namespace Sys2Proof.Proofs

open Machine Claims

/-! ## Every instruction as its accesses -/

section Accesses

variable {i : Instr} {s : State}

/-- An answer after accesses is a next state exactly where each of them is let through. -/
theorem exists_afterAccesses_next_iff {α : Type} {cfg : Config} {qs : List Access} {a : α} :
    (∃ b, afterAccesses cfg qs a = .next b) ↔ ∀ q ∈ qs, allows cfg q = true := by
  refine ⟨fun h => ?_, fun h => ⟨a, afterAccesses_of_allows h⟩⟩
  induction qs with
  | nil => nofun
  | cons q rest ih =>
    obtain ⟨b, hb⟩ := h
    obtain ⟨_, hq, hrest⟩ := andThen_eq_next.1 hb
    exact List.forall_mem_cons.2 ⟨access_eq_next.1 hq, ih ⟨b, hrest⟩⟩

theorem alu8Reg_eq (op : Op2 8) (r : Reg8) (s : State) :
    alu8Reg op r s = afterAccesses s.cfg (readsM r s) (alu8 op (value8 r s) 1#16 s) := by
  rw [alu8Reg, op8Read_eq]
  exact andThen_afterAccesses_next _ rfl

theorem compare8Reg_eq (r : Reg8) (s : State) :
    compare8Reg r s = afterAccesses s.cfg (readsM r s) (compare8 (value8 r s) 1#16 s) := by
  rw [compare8Reg, op8Read_eq]
  exact andThen_afterAccesses_next _ rfl

/-- A trap whose vector is supplied makes one access, the push of its return address (R500). -/
theorem exists_trap_eq {kind : TrapKind} (hv : vectorOf s.cfg kind ≠ none) :
    ∃ t, trap kind s = afterAccesses s.cfg [writeOf (s.sp - 2#16) .word] t := by
  obtain ⟨v, hv⟩ := Option.ne_none_iff_exists'.1 hv
  exact ⟨_, trap_eq hv⟩

/-- A request that is discarded makes no access, one that is taken those of its trap (R318). -/
theorem exists_execIrq_eq (hv : ∀ k, trapTaken .irq s = some k → vectorOf s.cfg k ≠ none) :
    ∃ t, exec .irq s = afterAccesses s.cfg (dataAccesses .irq s) t := by
  by_cases hi : s.flag.i = true
  · have hpush : dataAccesses .irq s = [writeOf (s.sp - 2#16) .word] := if_pos hi
    rw [hpush, execIrq_of_i hi]
    exact exists_trap_eq (hv .irq (if_pos hi))
  · have hnone : dataAccesses .irq s = [] := if_neg hi
    rw [hnone]
    exact ⟨_, execIrq_of_masked (Bool.eq_false_iff.2 hi)⟩

/-- R81: an instruction that has a meaning, no zero divisor and, where it traps, a vector is the accesses of the table,
in their order, and then one next state. -/
theorem exists_exec_eq (hbds : i ≠ .bds) (hdiv : divisor i s ≠ some 0#16)
    (hv : ∀ k, trapTaken i s = some k → vectorOf s.cfg k ≠ none) :
    ∃ t, exec i s = afterAccesses s.cfg (dataAccesses i s) t := by
  unfold exec
  cases i with
  | bds => exact absurd rfl hbds
  | nop | hlt | wfi | sfi | cfi | sft | cft | exr | exf | tri | jmp
  | tRR | tFR | swpRr | tpc | traRk | swpFf | tFF | tRF | traFk | addFf | mulFf | subFf | divFf | modFf | powFf
  | addFk | mulFk | subFk | divFk | modFk | inv | srt | irt | sin | cos | tan | abs | negF | cmpFf | cmpFk
  | adi | aci | sui | sci | ani | ori | xri | cpi | asl | asr | rol | ror | com | neg
  | addRr | adcRr | subRr | sbcRr | cmpRr | andRr | orrRr | xorRr | mulRr
  | addRk | adcRk | subRk | sbcRk | cmpRk | andRk | orrRk | xorRk | muk
  | aslR | asrR | rolR | rorR | comR | negR => exact ⟨_, rfl⟩
  | jsc | jzc | jvc | jic | jtc | jpc | jhc | jcc | jss | jzs | jvs | jis | jts | jps | jhs | jcs
  | jne | jeq | jlt | jle | jgt | jge => exact ⟨_, jumpIf_eq_jump _ _ s⟩
  | divRr | dik | modRr | mok => exact ⟨_, divide_of_ne_zero fun h => hdiv (congrArg some h)⟩
  | adh | adl | adb | adc | add | ade | adm | ach | acl | acb | acc | acd | ace | acm
  | suh | sul | sub | suc | sud | sue | sum | sch | scl | scb | scc | scd | sce | scm
  | anh | anl | anb | anc | and | ane | anm | orh | orl | orb | orc | ord | ore | orm
  | xrh | xrl | xrb | xrc | xrd | xre | xrm => exact ⟨_, alu8Reg_eq _ _ s⟩
  | cph | cpl | cpb | cpc | cpd | cpe | cpm => exact ⟨_, compare8Reg_eq _ s⟩
  | swh | swl | swb | swc | swd | swe | swm => exact ⟨_, swapA_eq _ s⟩
  | tha | tla | tba | tca | tda | tea | tma => exact ⟨_, loadA_eq _ s⟩
  | tah | tal | tab | tac | tad | tae | tam => exact ⟨_, storeA_eq _ s⟩
  | pla | plh | pll | plb | plc | pld | ple | plm => exact ⟨_, pullReg8_eq _ s⟩
  | pha | phh | phl | phb | phc | phd | phe | phm => exact ⟨_, pushReg8_eq _ s⟩
  | lda k => exact ⟨_, execLda_eq k s⟩
  | sta k => exact ⟨_, execSta_eq k s⟩
  | lrK r k => exact ⟨_, execLrK_eq s r k⟩
  | srK r k => exact ⟨_, execSrK_eq s r k⟩
  | pshR r => exact ⟨_, execPshR_eq s r⟩
  | pulR r => exact ⟨_, execPulR_eq s r⟩
  | stmMr r => exact ⟨_, execStmMr_eq s r⟩
  | ldmRm r => exact ⟨_, execLdmRm_eq s r⟩
  | trR rd o => exact ⟨_, execTrR_eq rd o s⟩
  | tRr o rs => exact ⟨_, execTRr_eq o rs s⟩
  | lfk f k => exact ⟨_, execLfk_eq s f k⟩
  | sfk f k => exact ⟨_, execSfk_eq s f k⟩
  | pshF f => exact ⟨_, execPshF_eq s f⟩
  | pulF f => exact ⟨_, execPulF_eq s f⟩
  | swpFk f k => exact ⟨_, execSwpFk_eq s f k⟩
  | trF f o => exact ⟨_, execTrF_eq s f o⟩
  | tFr o f => exact ⟨_, execTFr_eq s o f⟩
  | jmm => exact ⟨_, execJmm_eq s⟩
  | jsr k => exact ⟨_, execJsr_eq k s⟩
  | jsm => exact ⟨_, execJsm_eq s⟩
  | ret => exact ⟨_, execRet_eq s⟩
  | rfi => exact ⟨_, execRfi_eq s⟩
  | nmi => exact exists_trap_eq (hv .nmi rfl)
  | trp => exact exists_trap_eq (hv .trp rfl)
  | irq => exact exists_execIrq_eq hv

/-- An integer division has all its operands in the instruction and the registers (R81). -/
theorem dataAccesses_of_divisor {d : Word} (h : divisor i s = some d) : dataAccesses i s = [] := by
  cases i with
  | divRr | dik | modRr | mok => rfl
  | _ => cases h

theorem exec_of_vectorUnset {k : TrapKind} (h : trapTaken i s = some k) (hv : vectorOf s.cfg k = none) :
    exec i s = .fault (.vectorUnset k) := by
  cases i with
  | nmi | trp =>
    obtain rfl := Option.some.inj h
    exact trap_of_vectorUnset hv
  | irq =>
    obtain ⟨hi, hk⟩ := Option.ite_none_right_eq_some.1 h
    obtain rfl := Option.some.inj hk
    exact (execIrq_of_i hi).trans (trap_of_vectorUnset hv)
  | _ => cases h

theorem exec_of_zeroDivisor (h : divisor i s = some 0#16) : exec i s = .fault (.divideByZero s.pc) := by
  cases i with
  | divRr | dik | modRr | mok => exact divide_of_zero (Option.some.inj h)
  | _ => cases h

end Accesses

/-! ## The byte a fetch stops at -/

section Fetch

variable {s : State}

theorem fetchByte_of_denied {addr : Word} (hd : Denied s.cfg (fetchOf addr)) :
    fetchByte addr s = .fault (.accessFault (fetchOf addr)) := by
  rw [fetchByte, ← fetchOf, access_of_claimsDenied hd, andThen_fault]

/-- The first byte of a run that is denied is the fault (R86, R499). -/
theorem fetchBytes_of_denied {addr : Word} {n k : Nat} (hn : n < k)
    (ha : ∀ m, m < n → allows s.cfg (fetchOf (addr + BitVec.ofNat 16 m)) = true)
    (hd : Denied s.cfg (fetchOf (addr + BitVec.ofNat 16 n))) :
    fetchBytes addr k s = .fault (.accessFault (fetchOf (addr + BitVec.ofNat 16 n))) := by
  induction k generalizing addr n with
  | zero => cases hn
  | succ k ih =>
    cases n with
    | zero =>
      rw [BitVec.add_zero] at hd ⊢
      rw [fetchBytes, fetchByte_of_denied hd, andThen_fault]
    | succ n =>
      have hfirst : fetchByte addr s = .next (s.mem.read addr) :=
        fetchByte_eq_next.2 ⟨by simpa [fetchOf] using ha 0 n.succ_pos, rfl⟩
      have hrest := ih (addr := addr + 1#16) (Nat.lt_of_succ_lt_succ hn)
        (fun m hm => by rw [Word.succ_add]; exact ha (m + 1) (Nat.succ_lt_succ hm)) (by rwa [Word.succ_add])
      rw [fetchBytes, hfirst, andThen_next, hrest, andThen_fault, Word.succ_add]

theorem fetchInstr_of_deniedOpcode (hd : Denied s.cfg (fetchOf s.pc)) :
    fetchInstr s = .fault (.accessFault (fetchOf s.pc)) := by
  rw [fetchInstr, fetchByte_of_denied hd, andThen_fault]

/-- Where the opcode byte begins an instruction, its operand bytes are read as far as the first that is denied. -/
theorem fetchInstr_of_deniedOperand {i : Instr} {operands : List Byte} {n : Nat} (hd : encodingsDistinct s.cfg = true)
    (hwf : i.wellFormed s.cfg = true) (he : encode s.cfg i = some (s.mem.read s.pc :: operands))
    (hn : n < operands.length)
    (ha : ∀ m, m < n + 1 → allows s.cfg (fetchOf (s.pc + BitVec.ofNat 16 m)) = true)
    (hdenied : Denied s.cfg (fetchOf (s.pc + BitVec.ofNat 16 (n + 1)))) :
    fetchInstr s = .fault (.accessFault (fetchOf (s.pc + BitVec.ofNat 16 (n + 1)))) := by
  obtain ⟨op, operands', f, hbytes, hf, hr⟩ := formOf_encoding hd hwf he
  obtain ⟨rfl, rfl⟩ := List.cons.inj hbytes
  have hfirst : fetchByte s.pc s = .next (s.mem.read s.pc) :=
    fetchByte_eq_next.2 ⟨by simpa [fetchOf] using ha 0 n.succ_pos, rfl⟩
  have hlength : n < f.length - 1 := by rw [hr.length_eq]; exact hn
  have hoperands := fetchBytes_of_denied hlength
    (fun m hm => by rw [Word.succ_add]; exact ha (m + 1) (Nat.succ_lt_succ hm)) (by rwa [Word.succ_add])
  rw [Word.succ_add] at hoperands
  simp only [fetchInstr, hfirst, andThen_next, hf, hoperands, andThen_fault]

end Fetch

/-! ## The offer of a boundary -/

section Boundary

variable {s : State}

/-- R499, point 1: a request that is taken is the step, whatever stands at pc. -/
theorem step_of_taken {k : TrapKind} (hs : s.status ≠ .halted) (hk : takenRequest s = some k) :
    step s = trap k (passBoundary s) := by
  cases hstatus : s.status with
  | halted => exact absurd hstatus hs
  | waiting => exact step_of_waiting_taken hstatus hk
  | running => simp only [step, hstatus, hk]

/-- What is offered and not taken leaves no trace: the step is that of any stream with nothing taken at this boundary and
the same offers after it (R496). -/
theorem step_setEvents_of_untaken {e : EventStream} (hk : takenRequest s = none)
    (he : requestTaken e.head s.flag.i = none) (htail : e.tail = s.events.tail) : step (s.setEvents e) = step s := by
  have hpassed : passBoundary (s.setEvents e) = passBoundary s := congrArg s.setEvents htail
  have hk' : takenRequest (s.setEvents e) = none := he
  cases hstatus : s.status with
  | halted => simp only [step, State.setEvents_status, hstatus]
  | waiting => rw [step_of_waiting_untaken hstatus hk, step_of_waiting_untaken (s := s.setEvents e) hstatus hk', hpassed]
  | running =>
    rw [step_of_aboutToFetch ⟨hstatus, hk⟩, step_of_aboutToFetch (s := s.setEvents e) ⟨hstatus, hk'⟩,
      fetchInstr_setEvents, hpassed]

end Boundary

/-! ## Traps and their return -/

/-- R500: the entry sequence of a kind of trap, whose vector and return address these are. -/
theorem trap_entry (kind : TrapKind) (s : State) :
    (vectorOf s.cfg kind = none → trap kind s = .fault (.vectorUnset kind)) ∧
    ∀ v, vectorOf s.cfg kind = some v →
      (allows s.cfg (writeOf (s.sp - 2#16) .word) = true →
        ∃ t, trap kind s = .next t ∧ Entered v (returnAddress kind s) s t) ∧
      (Denied s.cfg (writeOf (s.sp - 2#16) .word) →
        trap kind s = .fault (.accessFault (writeOf (s.sp - 2#16) .word))) :=
  ⟨trap_of_vectorUnset, fun _ hv => ⟨exists_trap_entered hv, trap_of_denied hv⟩⟩

/-- What a trap that is taken leaves: the handler called with the return address, I cleared, running (R500). -/
theorem trap_next_called {kind : TrapKind} {s t : State} (h : trap kind s = .next t) :
    ∃ v, t = ((called (returnAddress kind s) v s).setI false).setStatus .running := by
  obtain ⟨v, -, -, rfl⟩ := trap_eq_next.1 h
  exact ⟨v, rfl⟩

/-- R502: RFI pulls the return address of the call, SP is back, and I is set. -/
theorem execRfi_called {ret dest : Word} {s : State} (hread : allows s.cfg (readOf (s.sp - 2#16) .word) = true) :
    exec .rfi (((called ret dest s).setI false).setStatus .running) =
      .next { s with pc := ret, flag := { s.flag with i := true }, mem := (called ret dest s).mem,
                     status := .running } := by
  have hword : word (called ret dest s).cfg.byteOrder (called ret dest s).mem (called ret dest s).sp = ret :=
    word_of_stores16 (called_stores16 ret dest s).2
  have hback : (called ret dest s).sp + 2#16 = s.sp := BitVec.sub_add_cancel s.sp 2#16
  rw [execRfi_next (s := ((called ret dest s).setI false).setStatus .running) hread]
  simp only [State.setStatus_cfg, State.setI_cfg, State.setStatus_mem, State.setI_mem, State.setStatus_sp,
    State.setI_sp, hword, hback]
  rfl

theorem returnAddress_eq_ite (kind : TrapKind) (s : State) :
    returnAddress kind s = if kind = .extIrq ∨ kind = .extNmi then s.pc else s.pc + 1#16 := by
  cases kind <;> rfl

end Sys2Proof.Proofs

/-! PROOFS. The statements of spec/60_exceptions.md. -/
namespace Sys2Proof.Settled

open Machine Claims Proofs

/-- Settles O20: what completes is neither BDS nor one of the two faults that need no access, and the rest is its
accesses and then a next state. -/
theorem completesExactlyWhenClear : Obligations.CompletesExactlyWhenClear := by
  intro i s
  constructor
  · rintro ⟨t, ht⟩
    have hbds : i ≠ .bds := by rintro rfl; cases ht
    have hdiv : divisor i s ≠ some 0#16 := fun h => by cases (exec_of_zeroDivisor h).symm.trans ht
    have hv : ∀ k, trapTaken i s = some k → vectorOf s.cfg k ≠ none :=
      fun k hk h => by cases (exec_of_vectorUnset hk h).symm.trans ht
    obtain ⟨u, hu⟩ := exists_exec_eq hbds hdiv hv
    exact ⟨hbds, hdiv, hv, exists_afterAccesses_next_iff.1 ⟨t, hu.symm.trans ht⟩⟩
  · rintro ⟨hbds, hdiv, hv, hallowed⟩
    obtain ⟨u, hu⟩ := exists_exec_eq hbds hdiv hv
    exact ⟨u, hu.trans (afterAccesses_of_allows hallowed)⟩

/-- Settles O21: an instruction with an access is no division and not BDS, so it is its accesses in order. -/
theorem instructionFaultOrder : Obligations.InstructionFaultOrder := by
  refine ⟨fun i s before q after hv hq hbefore hdenied => ?_, fun _ _ _ => exec_of_vectorUnset,
    fun _ _ => exec_of_zeroDivisor⟩
  have hsome : dataAccesses i s ≠ [] := by simp [hq]
  have hbds : i ≠ .bds := by rintro rfl; exact hsome rfl
  obtain ⟨u, hu⟩ := exists_exec_eq hbds (fun h => hsome (dataAccesses_of_divisor h)) hv
  rw [hu, hq, afterAccesses_of_denied hbefore hdenied]

/-- Settles O7: the fetch reads the opcode byte, looks at it, and reads the operand bytes, stopping where it may not go
on. -/
theorem fetchFaultOrder : Obligations.FetchFaultOrder := by
  intro s hs hd
  rw [step_of_aboutToFetch hs, isOpcode_iff hd]
  refine ⟨fun hdenied => ?_, fun ha hnone => ?_, fun i operands n hwf he hpos hn ha hdenied => ?_⟩
  · rw [fetchInstr_of_deniedOpcode hdenied, andThen_fault]
  · have hf : formOf s.cfg (s.mem.read s.pc) = none := Option.eq_none_iff_forall_ne_some.2 (not_exists.1 hnone)
    rw [fetchInstr_of_undefined ha hf, andThen_fault]
  · obtain ⟨n, rfl⟩ := Nat.exists_eq_add_of_le' hpos
    rw [fetchInstr_of_deniedOperand hd hwf he hn ha hdenied, andThen_fault]

/-- Settles O8: `requestTaken` says what of the offer is taken; a request that is discarded makes the step that of the
quiet offer. -/
theorem externalRequests : Obligations.ExternalRequests := by
  intro s hs
  refine ⟨fun hnmi => ?_, fun hnmi hirq hi => ?_, fun hnmi hirq hi => ?_, fun hnmi hirq hwaiting => ?_⟩
  · exact step_of_taken hs (requestTaken_eq_some.2 (.inl ⟨hnmi, rfl⟩))
  · exact step_of_taken hs (requestTaken_eq_some.2 (.inr ⟨hnmi, hirq, hi, rfl⟩))
  · have hmasked : takenRequest s = none := requestTaken_eq_none.2 ⟨hnmi, fun _ => hi⟩
    exact (step_setEvents_of_untaken (e := .offer .quiet s.events.tail) hmasked rfl rfl).symm
  · have hquiet : takenRequest s = none := requestTaken_eq_none.2 ⟨hnmi, fun h => absurd (hirq.symm.trans h) (by decide)⟩
    exact step_of_waiting_untaken hwaiting hquiet

/-- Settles O27: each row of the list is the vector and the return address of its kind. -/
theorem trapEntry : Obligations.TrapEntry := by
  intro s c hc
  fin_cases hc
  · exact trap_entry .irq s
  · exact trap_entry .extIrq s
  · exact trap_entry .nmi s
  · exact trap_entry .extNmi s
  · exact trap_entry .trp s

/-- Settles O28: a taken trap is a call of its handler, which RFI undoes but for I, the status and the two bytes below
SP. -/
theorem trapThenReturn : Obligations.TrapThenReturn := by
  intro kind s t ht hread
  obtain ⟨v, rfl⟩ := trap_next_called ht
  refine ⟨_, execRfi_called hread, ?_, fun a hfirst hsecond => read_called _ v s hfirst hsecond⟩
  rw [returnAddress_eq_ite]

end Sys2Proof.Settled

/-! SUPPORT. The launch: what an image leaves in memory, and which of its three answers a launch gives. -/
namespace Sys2Proof.Proofs

open Machine

/-! ## Images -/

section Images

variable {a : Word} {v : Byte} {before after cells : List (Word × Byte)}

theorem image_append (m : Memory) : m.image (before ++ after) = (m.image before).image after := by
  induction before generalizing m with
  | nil => rfl
  | cons c rest ih => exact ih (m.write c.1 c.2)

theorem read_image_of_unlisted (m : Memory) (h : ∀ c ∈ cells, c.1 ≠ a) : (m.image cells).read a = m.read a := by
  induction cells generalizing m with
  | nil => rfl
  | cons c rest ih =>
    have ⟨hc, hrest⟩ := List.forall_mem_cons.1 h
    calc ((m.write c.1 c.2).image rest).read a
        = (m.write c.1 c.2).read a := ih _ hrest
      _ = m.read a := Memory.read_write_other m c.2 hc.symm

/-- The last byte given for an address stands there (notes/assumptions/18.md). -/
theorem read_image_last (m : Memory) (h : ∀ c ∈ after, c.1 ≠ a) :
    (m.image (before ++ (a, v) :: after)).read a = v := by
  rw [image_append]
  exact (read_image_of_unlisted _ h).trans (Memory.read_write_same _ a v)

end Images

/-! ## The answers of a launch -/

/-- The state a launch that is not refused starts from (R50, R540, R543). -/
def launched (cfg : Config) (d : Draw) (cells : List (Word × Byte)) (offers : EventStream) (pc : Word) : State where
  cfg := cfg
  pc := pc
  sp := cfg.resetSp.getD d.sp
  a := d.a
  flag := d.flag
  x := d.x
  f := d.f
  shadowA := d.shadowA
  shadowFlag := d.shadowFlag
  shadowX := d.shadowX
  shadowF := d.shadowF
  status := .running
  mem := Memory.image [] cells
  events := offers

/-- What `State.reset` draws for the registers R50 leaves unspecified (notes/assumptions/3.md). -/
def resetDraw : Draw where
  sp := State.reset.sp
  a := State.reset.a
  flag := State.reset.flag
  x := State.reset.x
  f := State.reset.f
  shadowA := State.reset.shadowA
  shadowFlag := State.reset.shadowFlag
  shadowX := State.reset.shadowX
  shadowF := State.reset.shadowF

section Answers

variable {cfg : Config} {pc : Word} {cells : List (Word × Byte)} (d : Draw) (offers : EventStream)

theorem launch_of_noResetPc (hpc : cfg.resetPc = none) : launch cfg d cells offers = .refused .resetPcNotSupplied := by
  simp only [launch, hpc]

theorem launch_of_absent (hpc : cfg.resetPc = some pc) (h : ∃ c ∈ cells, memKind cfg c.1 = .absent) :
    ∃ a, launch cfg d cells offers = .refused (.imageOnAbsent a) := by
  obtain ⟨c, hc⟩ : ∃ c, cells.find? (fun c => decide (memKind cfg c.1 = .absent)) = some c :=
    Option.isSome_iff_exists.1 (by simpa [List.find?_isSome] using h)
  exact ⟨c.1, by simp only [launch, hpc, hc]⟩

theorem launch_of_present (hpc : cfg.resetPc = some pc) (h : ∀ c ∈ cells, memKind cfg c.1 ≠ .absent) :
    launch cfg d cells offers = .next (launched cfg d cells offers pc) := by
  have hnone : cells.find? (fun c => decide (memKind cfg c.1 = .absent)) = none :=
    List.find?_eq_none.2 fun c hc => by simpa using h c hc
  simp only [launch, hpc, hnone, launched]

end Answers

theorem launched_sp {cfg : Config} {v : Word} (d : Draw) (cells : List (Word × Byte)) (offers : EventStream)
    (pc : Word) (hsp : cfg.resetSp = some v) : (launched cfg d cells offers pc).sp = v := by
  simp [launched, hsp]

theorem launched_inv (cfg : Config) (d : Draw) (cells : List (Word × Byte)) (offers : EventStream) (pc : Word) :
    Inv (launched cfg d cells offers pc) :=
  Memory.image_wf cells Memory.wf_nil

/-- Reset is a launch of the reference platform, with nothing loaded (notes/assumptions/2.md). -/
theorem launch_resetDraw : launch Config.reference resetDraw [] (.cycle []) = .next State.reset :=
  launch_of_present resetDraw (.cycle []) rfl (by simp)

end Sys2Proof.Proofs

/-! PROOFS. The statements of spec/70_reset_and_hazards.md. -/
namespace Sys2Proof.Settled

open Machine Claims Proofs

/-- Settles O12: the three answers of a launch by what the platform supplies and where the image lies, the state of the
third being `launched`. -/
theorem launchState : Obligations.LaunchState := by
  refine ⟨fun cfg d image offers => ⟨launch_of_noResetPc d offers, fun _ => launch_of_absent d offers,
    fun pc hpc hpresent => ?_⟩, resetDraw, launch_resetDraw⟩
  have hlast : ∀ a v before after, image = before ++ (a, v) :: after → (∀ c ∈ after, c.1 ≠ a) →
      (launched cfg d image offers pc).mem.read a = v := by
    rintro a v before after rfl hafter
    exact read_image_last [] hafter
  exact ⟨launched cfg d image offers pc, launch_of_present d offers hpc hpresent, rfl,
    fun _ => launched_sp d image offers pc, rfl, rfl, rfl, launched_inv cfg d image offers pc,
    rfl, rfl, rfl, rfl, rfl, rfl, rfl, rfl, hlast⟩

end Sys2Proof.Settled
